-- ==== Sys2Proof/Word.lean ====
section
/-! DEFINITION. The plain data FXR computes with: the command word and its fields, vectors of three
lanes, 3x3 matrices, 2x2 tables (10_state.md R21 to R26, 30_encoding.md R90). The arithmetic stands
in Machine/Arith.lean. -/

namespace Sys2Proof

/-- A command word: 32 bits, bit 0 least significant (R8, R90). -/
abbrev Word := BitVec 32

/-- Eight bits: a byte register, an angle, a texel, a framebuffer byte (R23, R60, R61). -/
abbrev Byte := BitVec 8

/-- A 4-bit register field of a command word, 0 to 15 (R91). -/
abbrev RegNo := BitVec 4

/-- A vector lane: 0 = x, 1 = y, 2 = z (R24). -/
abbrev Lane := Fin 3

/-- A vector of three lanes, each a raw signed integer (R24, R25). -/
structure V3 where
  x : Int
  y : Int
  z : Int
deriving DecidableEq, Repr

/-- Lane `l` of a vector. -/
def V3.get (v : V3) : Lane → Int
  | 0 => v.x
  | 1 => v.y
  | 2 => v.z

/-- `v` with lane `l` replaced. -/
def V3.set (v : V3) (l : Lane) (a : Int) : V3 :=
  match l with
  | 0 => { v with x := a }
  | 1 => { v with y := a }
  | 2 => { v with z := a }

/-- The vector whose lane `l` is `f l`. -/
def V3.ofFn (f : Lane → Int) : V3 := ⟨f 0, f 1, f 2⟩

/-- Each lane through `f` (R174: lanes do not interact). -/
def V3.map (f : Int → Int) (v : V3) : V3 := ⟨f v.x, f v.y, f v.z⟩

/-- Lane by lane (R174). -/
def V3.zipWith (f : Int → Int → Int) (u v : V3) : V3 := ⟨f u.x v.x, f u.y v.y, f u.z v.z⟩

/-- The vector (0, 0, 0). -/
def V3.zero : V3 := ⟨0, 0, 0⟩

/-- A 3x3 matrix by its rows; lane number 3*r + c is row r, column c (R26). -/
structure Mat where
  row0 : V3
  row1 : V3
  row2 : V3
deriving DecidableEq, Repr

/-- Row `r` of a matrix. -/
def Mat.row (m : Mat) : Lane → V3
  | 0 => m.row0
  | 1 => m.row1
  | 2 => m.row2

/-- Element `M[r][c]` (R26). -/
def Mat.get (m : Mat) (r c : Lane) : Int := (m.row r).get c

/-- The matrix with element `[r][c]` replaced. -/
def Mat.set (m : Mat) (r c : Lane) (a : Int) : Mat :=
  match r with
  | 0 => { m with row0 := m.row0.set c a }
  | 1 => { m with row1 := m.row1.set c a }
  | 2 => { m with row2 := m.row2.set c a }

/-- The matrix whose element `[r][c]` is `f r c`. -/
def Mat.ofFn (f : Lane → Lane → Int) : Mat := ⟨V3.ofFn (f 0), V3.ofFn (f 1), V3.ofFn (f 2)⟩

/-- Each element through `f`. -/
def Mat.map (f : Int → Int) (m : Mat) : Mat := ⟨m.row0.map f, m.row1.map f, m.row2.map f⟩

/-- The matrix with every element 0. -/
def Mat.zero : Mat := ⟨V3.zero, V3.zero, V3.zero⟩

/-- A 2x2 table indexed [dy][dx], dx and dy in {0, 1} (R5: DM0, DM1, DSEL). -/
structure Grid (α : Type) where
  e00 : α
  e01 : α
  e10 : α
  e11 : α
deriving DecidableEq, Repr

/-- Entry `[dy][dx]` of a 2x2 table. -/
def Grid.get {α : Type} (g : Grid α) : Fin 2 → Fin 2 → α
  | 0, 0 => g.e00
  | 0, 1 => g.e01
  | 1, 0 => g.e10
  | 1, 1 => g.e11

/-- A signed integer fits in `w` bits of two's complement (R9). -/
abbrev Fits (w : Nat) (z : Int) : Prop := -(2 ^ (w - 1) : Int) ≤ z ∧ z < (2 ^ (w - 1) : Int)

/-- Every lane fits in `w` bits. -/
abbrev V3.Fits (w : Nat) (v : V3) : Prop :=
  Sys2Proof.Fits w v.x ∧ Sys2Proof.Fits w v.y ∧ Sys2Proof.Fits w v.z

/-- Every element fits in `w` bits. -/
abbrev Mat.Fits (w : Nat) (m : Mat) : Prop :=
  V3.Fits w m.row0 ∧ V3.Fits w m.row1 ∧ V3.Fits w m.row2

end Sys2Proof
end

