-- ==== Sys2Proof/Syntax.lean ====
section
/-! DEFINITION. The 63 commands of FXR, one constructor per row of spec/opcode_table.json, operands in
the assembler order of 30_encoding.md R107. Which register file a number indexes is fixed by the
command (R96, R98). -/

namespace Sys2Proof

/-- A command of FXR (R98). -/
inductive Instr where
  -- scalar ALU, 41_scalar_alu.md
  | liw (rd : RegNo) (imm : BitVec 16)
  | lin (rd : RegNo) (imm : BitVec 16)
  | lib (rd : RegNo) (imm : Byte)
  | addw (rd ra rb : RegNo)
  | addn (rd ra rb : RegNo)
  | subw (rd ra rb : RegNo)
  | subn (rd ra rb : RegNo)
  | negw (rd ra : RegNo)
  | negn (rd ra : RegNo)
  | mulw (rd ra rb : RegNo)
  | muln (rd ra rb : RegNo)
  | mulwn (rd ra rb : RegNo)
  | divw (rd ra rb : RegNo)
  | divn (rd ra rb : RegNo)
  | qdiv (rd ra rb : RegNo)
  | cvtnw (rd ra : RegNo)
  | cvtwn (rd ra : RegNo)
  | clampw (rd ra rb rc : RegNo)
  | sin (rd ra : RegNo)
  | cos (rd ra : RegNo)
  | addb (rd ra rb : RegNo)
  | addib (rd ra : RegNo) (imm : Byte)
  | negb (rd ra : RegNo)
  -- vector unit, 42_vector_matrix.md
  | vaddw (rd ra rb : RegNo)
  | vaddn (rd ra rb : RegNo)
  | vsubw (rd ra rb : RegNo)
  | vsubn (rd ra rb : RegNo)
  | vscln (rd ra rb : RegNo)
  | vsclwn (rd ra rb : RegNo)
  | vcvtnw (rd ra : RegNo)
  | vcrossw (rd ra rb : RegNo)
  | vcrossn (rd ra rb : RegNo)
  | vlerpn (rd ra rb : RegNo) (k : Byte) (sh : BitVec 4)
  | vextw (rd ra : RegNo) (lane : BitVec 2)
  | vextn (rd ra : RegNo) (lane : BitVec 2)
  | vinsw (rd ra : RegNo) (lane : BitVec 2)
  | vinsn (rd ra : RegNo) (lane : BitVec 2)
  -- matrix unit, 42_vector_matrix.md
  | mident (rd : RegNo)
  | mrotx (rd ra : RegNo)
  | mroty (rd ra : RegNo)
  | mrotz (rd ra : RegNo)
  | mmul (rd ra rb : RegNo)
  | mtrans (rd ra : RegNo)
  | mvmul (rd ra rb : RegNo)
  | mfwd (rd ra : RegNo)
  -- ray/plane unit, 43_rayplane.md
  | rclass (ra : RegNo)
  | rgnd (rd ra rb : RegNo)
  | rcld (rd ra rb : RegNo)
  -- texture sampler, 44_texture.md
  | texg (rd ra : RegNo)
  | texc (rd ra : RegNo)
  -- dither quantizer and framebuffer writer, 45_dither_fb.md
  | dqc (rd ra : RegNo)
  | dqf (rd ra : RegNo) (par : BitVec 1)
  | fbpix (ra : RegNo) (x y : Byte)
  | fbblk (ra : RegNo) (x y : Byte)
  | fbst (ra : RegNo) (x page : Byte)
  -- camera, 46_camera.md
  | camrot
  | camtick (mask : BitVec 4)
  | mcam (rd : RegNo)
  | mcami (rd : RegNo)
  | vcam (rd : RegNo)
  -- frame sequencer, 47_render.md
  | rcorn (ra : RegNo)
  | rshade (rd ra : RegNo)
  | rend
deriving DecidableEq, Repr

end Sys2Proof
end

