-- ==== Sys2Proof/WellFormed.lean ====
section
/-! DEFINITION. Which terms of Instr are commands: the one check that the widths of the fields do not
make by themselves is the lane number of VEXTW, VEXTN, VINSW and VINSN (30_encoding.md R99, R104 c). -/

namespace Sys2Proof

/-- A lane field names a lane: 0, 1 or 2 (R91, R99). -/
def laneOk (lane : BitVec 2) : Bool := lane != 3#2

/-- The term is a command of R98. -/
def Instr.wellFormed : Instr → Bool
  | .liw _ _ | .lin _ _ | .lib _ _ => true
  | .addw _ _ _ | .addn _ _ _ | .subw _ _ _ | .subn _ _ _ | .negw _ _ | .negn _ _ => true
  | .mulw _ _ _ | .muln _ _ _ | .mulwn _ _ _ | .divw _ _ _ | .divn _ _ _ | .qdiv _ _ _ => true
  | .cvtnw _ _ | .cvtwn _ _ | .clampw _ _ _ _ | .sin _ _ | .cos _ _ => true
  | .addb _ _ _ | .addib _ _ _ | .negb _ _ => true
  | .vaddw _ _ _ | .vaddn _ _ _ | .vsubw _ _ _ | .vsubn _ _ _ => true
  | .vscln _ _ _ | .vsclwn _ _ _ | .vcvtnw _ _ | .vcrossw _ _ _ | .vcrossn _ _ _ => true
  | .vlerpn _ _ _ _ _ => true
  | .vextw _ _ lane | .vextn _ _ lane | .vinsw _ _ lane | .vinsn _ _ lane => laneOk lane
  | .mident _ | .mrotx _ _ | .mroty _ _ | .mrotz _ _ => true
  | .mmul _ _ _ | .mtrans _ _ | .mvmul _ _ _ | .mfwd _ _ => true
  | .rclass _ | .rgnd _ _ _ | .rcld _ _ _ | .texg _ _ | .texc _ _ => true
  | .dqc _ _ | .dqf _ _ _ | .fbpix _ _ _ | .fbblk _ _ _ | .fbst _ _ _ => true
  | .camrot | .camtick _ | .mcam _ | .mcami _ | .vcam _ => true
  | .rcorn _ | .rshade _ _ | .rend => true

end Sys2Proof
end

