-- ==== Sys2Proof/Decode.lean ====
section
/-! DEFINITION. The decoder and the encoder of command words (30_encoding.md R90 to R99, R104), written
from the format tables R91 to R94 and the opcode table R98. Both are total; the decoder refuses an
illegal word by name. -/

namespace Sys2Proof

/-! ### Fields of a command word (R91 to R95) -/

/-- Bits 31:24, the opcode. -/
def opField (w : Word) : Byte := w.extractLsb' 24 8

/-- Bits 23:20, `rd` of formats R, I, L. -/
def rdField (w : Word) : RegNo := w.extractLsb' 20 4

/-- Bits 19:16, `ra` of every format. -/
def raField (w : Word) : RegNo := w.extractLsb' 16 4

/-- Bits 15:12, `rb` of formats R and L. -/
def rbField (w : Word) : RegNo := w.extractLsb' 12 4

/-- Bits 11:8, `rc` of format R. -/
def rcField (w : Word) : RegNo := w.extractLsb' 8 4

/-- Bits 13:12, the lane number of the four lane commands (R91, R99). -/
def laneField (w : Word) : BitVec 2 := w.extractLsb' 12 2

/-- Bit 12, the parity of DQF (R91, R99). -/
def parField (w : Word) : BitVec 1 := w.extractLsb' 12 1

/-- Bits 15:0, `imm16` of format I. -/
def imm16Field (w : Word) : BitVec 16 := w.extractLsb' 0 16

/-- Bits 7:0, `imm16[7:0]` of LIB and ADDIB (R95). -/
def imm8Field (w : Word) : Byte := w.extractLsb' 0 8

/-- Bits 3:0, the input mask of CAMTICK (R95). -/
def maskField (w : Word) : BitVec 4 := w.extractLsb' 0 4

/-- Bits 11:8, `sh` of format L. -/
def shField (w : Word) : BitVec 4 := w.extractLsb' 8 4

/-- Bits 7:0, `k` of format L. -/
def kField (w : Word) : Byte := w.extractLsb' 0 8

/-- Bits 15:8, `y` of format P. -/
def yField (w : Word) : Byte := w.extractLsb' 8 8

/-- Bits 7:0, `x` of format P. -/
def xField (w : Word) : Byte := w.extractLsb' 0 8

/-! ### The decoder -/

/-- Why a word is illegal (R104). -/
inductive DecodeError where
  /-- (a) the opcode is not in the table of R98. -/
  | unassignedOpcode (op : Byte)
  /-- (b) a bit that the table requires to be 0 is 1; the bits that are. -/
  | reservedBitSet (bits : Word)
  /-- (c) the lane field of VEXTW, VEXTN, VINSW or VINSN is 3. -/
  | laneThree
deriving DecidableEq, Repr

/-- The command, if the bits of `zeros` are 0 in the word (R99: mask without the opcode bits). -/
def legal (w zeros : Word) (i : Instr) : Except DecodeError Instr :=
  if w &&& zeros = 0#32 then .ok i else .error (.reservedBitSet (w &&& zeros))

/-- The same with the check of the lane field (R99, R104 c). -/
def legalLane (w zeros : Word) (i : Instr) : Except DecodeError Instr :=
  if w &&& zeros = 0#32 then
    if laneOk (laneField w) then .ok i else .error .laneThree
  else .error (.reservedBitSet (w &&& zeros))

/-- The command a word selects, or the name of what makes it illegal (R90, R98, R99, R104, R105). -/
def decode (w : Word) : Except DecodeError Instr :=
  match opField w with
  | 0x01#8 => legal w 0x0F0000#32 (.liw (rdField w) (imm16Field w))
  | 0x02#8 => legal w 0x0F0000#32 (.lin (rdField w) (imm16Field w))
  | 0x03#8 => legal w 0x0FFF00#32 (.lib (rdField w) (imm8Field w))
  | 0x04#8 => legal w 0x000FFF#32 (.addw (rdField w) (raField w) (rbField w))
  | 0x05#8 => legal w 0x000FFF#32 (.addn (rdField w) (raField w) (rbField w))
  | 0x06#8 => legal w 0x000FFF#32 (.subw (rdField w) (raField w) (rbField w))
  | 0x07#8 => legal w 0x000FFF#32 (.subn (rdField w) (raField w) (rbField w))
  | 0x08#8 => legal w 0x00FFFF#32 (.negw (rdField w) (raField w))
  | 0x09#8 => legal w 0x00FFFF#32 (.negn (rdField w) (raField w))
  | 0x0A#8 => legal w 0x000FFF#32 (.mulw (rdField w) (raField w) (rbField w))
  | 0x0B#8 => legal w 0x000FFF#32 (.muln (rdField w) (raField w) (rbField w))
  | 0x0C#8 => legal w 0x000FFF#32 (.mulwn (rdField w) (raField w) (rbField w))
  | 0x0D#8 => legal w 0x000FFF#32 (.divw (rdField w) (raField w) (rbField w))
  | 0x0E#8 => legal w 0x000FFF#32 (.divn (rdField w) (raField w) (rbField w))
  | 0x0F#8 => legal w 0x000FFF#32 (.qdiv (rdField w) (raField w) (rbField w))
  | 0x10#8 => legal w 0x00FFFF#32 (.cvtnw (rdField w) (raField w))
  | 0x11#8 => legal w 0x00FFFF#32 (.cvtwn (rdField w) (raField w))
  | 0x12#8 => legal w 0x0000FF#32 (.clampw (rdField w) (raField w) (rbField w) (rcField w))
  | 0x13#8 => legal w 0x00FFFF#32 (.sin (rdField w) (raField w))
  | 0x14#8 => legal w 0x00FFFF#32 (.cos (rdField w) (raField w))
  | 0x15#8 => legal w 0x000FFF#32 (.addb (rdField w) (raField w) (rbField w))
  | 0x16#8 => legal w 0x00FF00#32 (.addib (rdField w) (raField w) (imm8Field w))
  | 0x17#8 => legal w 0x00FFFF#32 (.negb (rdField w) (raField w))
  | 0x20#8 => legal w 0x000FFF#32 (.vaddw (rdField w) (raField w) (rbField w))
  | 0x21#8 => legal w 0x000FFF#32 (.vaddn (rdField w) (raField w) (rbField w))
  | 0x22#8 => legal w 0x000FFF#32 (.vsubw (rdField w) (raField w) (rbField w))
  | 0x23#8 => legal w 0x000FFF#32 (.vsubn (rdField w) (raField w) (rbField w))
  | 0x24#8 => legal w 0x000FFF#32 (.vscln (rdField w) (raField w) (rbField w))
  | 0x25#8 => legal w 0x000FFF#32 (.vsclwn (rdField w) (raField w) (rbField w))
  | 0x26#8 => legal w 0x00FFFF#32 (.vcvtnw (rdField w) (raField w))
  | 0x27#8 => legal w 0x000FFF#32 (.vcrossw (rdField w) (raField w) (rbField w))
  | 0x28#8 => legal w 0x000FFF#32 (.vcrossn (rdField w) (raField w) (rbField w))
  | 0x29#8 => legal w 0x000000#32 (.vlerpn (rdField w) (raField w) (rbField w) (kField w) (shField w))
  | 0x2A#8 => legalLane w 0x00CFFF#32 (.vextw (rdField w) (raField w) (laneField w))
  | 0x2B#8 => legalLane w 0x00CFFF#32 (.vextn (rdField w) (raField w) (laneField w))
  | 0x2C#8 => legalLane w 0x00CFFF#32 (.vinsw (rdField w) (raField w) (laneField w))
  | 0x2D#8 => legalLane w 0x00CFFF#32 (.vinsn (rdField w) (raField w) (laneField w))
  | 0x30#8 => legal w 0x0FFFFF#32 (.mident (rdField w))
  | 0x31#8 => legal w 0x00FFFF#32 (.mrotx (rdField w) (raField w))
  | 0x32#8 => legal w 0x00FFFF#32 (.mroty (rdField w) (raField w))
  | 0x33#8 => legal w 0x00FFFF#32 (.mrotz (rdField w) (raField w))
  | 0x34#8 => legal w 0x000FFF#32 (.mmul (rdField w) (raField w) (rbField w))
  | 0x35#8 => legal w 0x00FFFF#32 (.mtrans (rdField w) (raField w))
  | 0x36#8 => legal w 0x000FFF#32 (.mvmul (rdField w) (raField w) (rbField w))
  | 0x37#8 => legal w 0x00FFFF#32 (.mfwd (rdField w) (raField w))
  | 0x40#8 => legal w 0xF0FFFF#32 (.rclass (raField w))
  | 0x41#8 => legal w 0x000FFF#32 (.rgnd (rdField w) (raField w) (rbField w))
  | 0x42#8 => legal w 0x000FFF#32 (.rcld (rdField w) (raField w) (rbField w))
  | 0x50#8 => legal w 0x00FFFF#32 (.texg (rdField w) (raField w))
  | 0x51#8 => legal w 0x00FFFF#32 (.texc (rdField w) (raField w))
  | 0x60#8 => legal w 0x00FFFF#32 (.dqc (rdField w) (raField w))
  | 0x61#8 => legal w 0x00EFFF#32 (.dqf (rdField w) (raField w) (parField w))
  | 0x62#8 => legal w 0xF00000#32 (.fbpix (raField w) (xField w) (yField w))
  | 0x63#8 => legal w 0xF00000#32 (.fbblk (raField w) (xField w) (yField w))
  | 0x64#8 => legal w 0xF00000#32 (.fbst (raField w) (xField w) (yField w))
  | 0x70#8 => legal w 0xFFFFFF#32 .camrot
  | 0x71#8 => legal w 0xFFFFF0#32 (.camtick (maskField w))
  | 0x72#8 => legal w 0x0FFFFF#32 (.mcam (rdField w))
  | 0x73#8 => legal w 0x0FFFFF#32 (.mcami (rdField w))
  | 0x74#8 => legal w 0x0FFFFF#32 (.vcam (rdField w))
  | 0x80#8 => legal w 0xF0FFFF#32 (.rcorn (raField w))
  | 0x81#8 => legal w 0x00FFFF#32 (.rshade (rdField w) (raField w))
  | 0x82#8 => legal w 0xFFFFFF#32 .rend
  | op => .error (.unassignedOpcode op)

/-! ### The encoder -/

/-- Format R (R91). -/
def fmtR (op : Byte) (rd ra rb rc : RegNo) : Word := op ++ rd ++ ra ++ rb ++ rc ++ 0#8

/-- Format I (R92). -/
def fmtI (op : Byte) (rd ra : RegNo) (imm : BitVec 16) : Word := op ++ rd ++ ra ++ imm

/-- Format L (R93). -/
def fmtL (op : Byte) (rd ra rb : RegNo) (sh : BitVec 4) (k : Byte) : Word :=
  op ++ rd ++ ra ++ rb ++ sh ++ k

/-- Format P (R94). -/
def fmtP (op : Byte) (ra : RegNo) (y x : Byte) : Word := op ++ 0#4 ++ ra ++ y ++ x

/-- The word of a command, every field not listed 0 (R98). -/
def encode : Instr → Word
  | .liw rd imm => fmtI 0x01#8 rd 0#4 imm
  | .lin rd imm => fmtI 0x02#8 rd 0#4 imm
  | .lib rd imm => fmtI 0x03#8 rd 0#4 (0#8 ++ imm)
  | .addw rd ra rb => fmtR 0x04#8 rd ra rb 0#4
  | .addn rd ra rb => fmtR 0x05#8 rd ra rb 0#4
  | .subw rd ra rb => fmtR 0x06#8 rd ra rb 0#4
  | .subn rd ra rb => fmtR 0x07#8 rd ra rb 0#4
  | .negw rd ra => fmtR 0x08#8 rd ra 0#4 0#4
  | .negn rd ra => fmtR 0x09#8 rd ra 0#4 0#4
  | .mulw rd ra rb => fmtR 0x0A#8 rd ra rb 0#4
  | .muln rd ra rb => fmtR 0x0B#8 rd ra rb 0#4
  | .mulwn rd ra rb => fmtR 0x0C#8 rd ra rb 0#4
  | .divw rd ra rb => fmtR 0x0D#8 rd ra rb 0#4
  | .divn rd ra rb => fmtR 0x0E#8 rd ra rb 0#4
  | .qdiv rd ra rb => fmtR 0x0F#8 rd ra rb 0#4
  | .cvtnw rd ra => fmtR 0x10#8 rd ra 0#4 0#4
  | .cvtwn rd ra => fmtR 0x11#8 rd ra 0#4 0#4
  | .clampw rd ra rb rc => fmtR 0x12#8 rd ra rb rc
  | .sin rd ra => fmtR 0x13#8 rd ra 0#4 0#4
  | .cos rd ra => fmtR 0x14#8 rd ra 0#4 0#4
  | .addb rd ra rb => fmtR 0x15#8 rd ra rb 0#4
  | .addib rd ra imm => fmtI 0x16#8 rd ra (0#8 ++ imm)
  | .negb rd ra => fmtR 0x17#8 rd ra 0#4 0#4
  | .vaddw rd ra rb => fmtR 0x20#8 rd ra rb 0#4
  | .vaddn rd ra rb => fmtR 0x21#8 rd ra rb 0#4
  | .vsubw rd ra rb => fmtR 0x22#8 rd ra rb 0#4
  | .vsubn rd ra rb => fmtR 0x23#8 rd ra rb 0#4
  | .vscln rd ra rb => fmtR 0x24#8 rd ra rb 0#4
  | .vsclwn rd ra rb => fmtR 0x25#8 rd ra rb 0#4
  | .vcvtnw rd ra => fmtR 0x26#8 rd ra 0#4 0#4
  | .vcrossw rd ra rb => fmtR 0x27#8 rd ra rb 0#4
  | .vcrossn rd ra rb => fmtR 0x28#8 rd ra rb 0#4
  | .vlerpn rd ra rb k sh => fmtL 0x29#8 rd ra rb sh k
  | .vextw rd ra lane => fmtR 0x2A#8 rd ra (0#2 ++ lane) 0#4
  | .vextn rd ra lane => fmtR 0x2B#8 rd ra (0#2 ++ lane) 0#4
  | .vinsw rd ra lane => fmtR 0x2C#8 rd ra (0#2 ++ lane) 0#4
  | .vinsn rd ra lane => fmtR 0x2D#8 rd ra (0#2 ++ lane) 0#4
  | .mident rd => fmtR 0x30#8 rd 0#4 0#4 0#4
  | .mrotx rd ra => fmtR 0x31#8 rd ra 0#4 0#4
  | .mroty rd ra => fmtR 0x32#8 rd ra 0#4 0#4
  | .mrotz rd ra => fmtR 0x33#8 rd ra 0#4 0#4
  | .mmul rd ra rb => fmtR 0x34#8 rd ra rb 0#4
  | .mtrans rd ra => fmtR 0x35#8 rd ra 0#4 0#4
  | .mvmul rd ra rb => fmtR 0x36#8 rd ra rb 0#4
  | .mfwd rd ra => fmtR 0x37#8 rd ra 0#4 0#4
  | .rclass ra => fmtR 0x40#8 0#4 ra 0#4 0#4
  | .rgnd rd ra rb => fmtR 0x41#8 rd ra rb 0#4
  | .rcld rd ra rb => fmtR 0x42#8 rd ra rb 0#4
  | .texg rd ra => fmtR 0x50#8 rd ra 0#4 0#4
  | .texc rd ra => fmtR 0x51#8 rd ra 0#4 0#4
  | .dqc rd ra => fmtR 0x60#8 rd ra 0#4 0#4
  | .dqf rd ra par => fmtR 0x61#8 rd ra (0#3 ++ par) 0#4
  | .fbpix ra x y => fmtP 0x62#8 ra y x
  | .fbblk ra x y => fmtP 0x63#8 ra y x
  | .fbst ra x y => fmtP 0x64#8 ra y x
  | .camrot => fmtR 0x70#8 0#4 0#4 0#4 0#4
  | .camtick imm => fmtI 0x71#8 0#4 0#4 (0#12 ++ imm)
  | .mcam rd => fmtR 0x72#8 rd 0#4 0#4 0#4
  | .mcami rd => fmtR 0x73#8 rd 0#4 0#4 0#4
  | .vcam rd => fmtR 0x74#8 rd 0#4 0#4 0#4
  | .rcorn ra => fmtR 0x80#8 0#4 ra 0#4 0#4
  | .rshade rd ra => fmtR 0x81#8 rd ra 0#4 0#4
  | .rend => fmtR 0x82#8 0#4 0#4 0#4 0#4

/-- What the decoder reads from the bits of an opcode-table row: the word has 32 bits, and every bit
from `nbits` up is 0. -/
def decodeTableWord (nbits w : Nat) : Option Instr :=
  (decode (BitVec.ofNat 32 (w % 2 ^ nbits))).toOption

end Sys2Proof
end

