-- ==== Sys2Proof/Config.lean ====
section
/-! DEFINITION. The configuration record CFG (00_scope.md R5), its constraints, the quantities derived
from it (R6), the reference instance CFG_REF, and the free value of 93_implementation_defined.md U2.
CFG.HOSTMAP is left out: no rule reads it (assumption log 11). -/

namespace Sys2Proof

/-- The fields of CFG, in the order of the table of R5. Raw integers; nothing here is state. -/
structure Params where
  /-- WW, the width in bits of a wide scalar. -/
  ww : Nat
  /-- WF, its fractional bits. -/
  wf : Nat
  /-- NW, the width in bits of a narrow scalar. -/
  nw : Nat
  /-- NF, its fractional bits. -/
  nf : Nat
  /-- WU, the world-unit shift. -/
  wu : Nat
  /-- SINTAB, 256 narrow raw values. -/
  sintab : List Int
  /-- QD_ISHIFT. -/
  qdIshift : Nat
  /-- QD_LO. -/
  qdLo : Nat
  /-- QD_HI. -/
  qdHi : Nat
  /-- RECIP, QD_HI - QD_LO + 1 non-negative integers. -/
  recip : List Nat
  /-- QD_SHIFT. -/
  qdShift : Nat
  /-- LW, log2 of the screen width. -/
  lw : Nat
  /-- LH, log2 of the screen height. -/
  lh : Nat
  /-- HX, HY, HZ, the components of the viewport corners, narrow raw. -/
  hx : Int
  hy : Int
  hz : Int
  /-- T_BAND, the threshold of the classification, narrow raw. -/
  tBand : Nat
  /-- CLOUD_H, the height of the cloud plane, wide raw. -/
  cloudH : Int
  /-- GROUND_FLAT, 0..255. -/
  groundFlat : Byte
  /-- SKY_LEVEL, 0..255. -/
  skyLevel : Byte
  /-- DM0 and DM1, the dither threshold matrices, indexed [dy][dx]. -/
  dm0 : Grid Int
  dm1 : Grid Int
  /-- DSEL, which matrix a block pixel uses; `true` is 1, that is DM1. -/
  dsel : Grid Bool
  /-- FTH[0] and FTH[1]. -/
  fth0 : Int
  fth1 : Int
  /-- GTEX, 4096 bytes. -/
  gtex : List Byte
  /-- CTEX, 1024 bytes. -/
  ctex : List Byte
  /-- INIT_POS, three wide raw values. -/
  initPos : V3
deriving DecidableEq, Repr

/-- The constraints of R5 and the sizes that R283 fixes by type. That a "narrow raw" or "wide raw"
constant fits its width is read from R9 (assumption log 10). -/
structure Params.WellFormed (p : Params) : Prop where
  ww_ge : 8 ≤ p.ww
  wf_lt : p.wf < p.ww
  nw_ge : 8 ≤ p.nw
  nf_lt : p.nf < p.nw - 1
  wu_ok : p.wu = 0 ∨ p.wu = p.wf
  sintab_length : p.sintab.length = 256
  sintab_fits : ∀ z ∈ p.sintab, Fits p.nw z
  qd_le : p.qdLo ≤ p.qdHi
  recip_length : p.recip.length = p.qdHi - p.qdLo + 1
  lw_ge : 1 ≤ p.lw
  lw_le : p.lw ≤ 8
  lh_ge : 3 ≤ p.lh
  lh_le : p.lh ≤ 8
  hx_fits : Fits p.nw p.hx
  hy_fits : Fits p.nw p.hy
  hz_fits : Fits p.nw p.hz
  tBand_lt : p.tBand < 2 ^ (p.nw - 1)
  cloudH_fits : Fits p.ww p.cloudH
  gtex_length : p.gtex.length = 4096
  ctex_length : p.ctex.length = 1024
  initPos_fits : V3.Fits p.ww p.initPos

/-- CFG: a record that meets its constraints. An ill-formed one cannot be built (R283, U3). -/
structure Cfg extends Params where
  ok : toParams.WellFormed
deriving DecidableEq, Repr

/-! ### Derived quantities (R6) -/

/-- SW = 2^LW, the screen width in pixels. -/
def Cfg.sw (c : Cfg) : Nat := 2 ^ c.lw

/-- SH = 2^LH, the screen height in pixels. -/
def Cfg.sh (c : Cfg) : Nat := 2 ^ c.lh

/-- PAGES = SH / 8. -/
def Cfg.pages (c : Cfg) : Nat := c.sh / 8

/-- FBSIZE = SW * SH / 8. -/
def Cfg.fbSize (c : Cfg) : Nat := c.sw * c.sh / 8

/-- ONE_N = 2^NF. -/
def Cfg.oneN (c : Cfg) : Int := 2 ^ c.nf

/-- ONE_W = 2^WF. -/
def Cfg.oneW (c : Cfg) : Int := 2 ^ c.wf

/-- TEXSH = WU + 4. -/
def Cfg.texSh (c : Cfg) : Nat := c.wu + 4

/-- ALT_MIN = 1 * 2^WU. -/
def Cfg.altMin (c : Cfg) : Int := 2 ^ c.wu

/-- ALT_MAX = 120 * 2^WU. -/
def Cfg.altMax (c : Cfg) : Int := 120 * 2 ^ c.wu

/-- RECIP_N = QD_HI - QD_LO + 1. -/
def Cfg.recipN (c : Cfg) : Nat := c.qdHi - c.qdLo + 1

/-! ### CFG_REF (R5, column CFG_REF; R141; R151) -/

/-- `[f i, f (i+1), ..., f (i+n-1)]`, lazily in the kernel. -/
def tabulate {α : Type} (f : Nat → α) (i : Nat) : Nat → List α
  | 0 => []
  | n + 1 => f i :: tabulate f (i + 1) n

/-- A table has as many entries as it was asked for. -/
theorem length_tabulate {α : Type} (f : Nat → α) (i n : Nat) : (tabulate f i n).length = n := by
  induction n generalizing i with
  | zero => rfl
  | succ n ih => simp [tabulate, ih]

/-- SINTAB of CFG_REF, i = 0..127: rows r0 to r7 of R141. -/
def refSineUpper : List Int :=
  [0, 6, 13, 19, 25, 31, 38, 44, 50, 56, 62, 68, 74, 80, 86, 92] ++
  [98, 104, 109, 115, 121, 126, 132, 137, 142, 147, 152, 157, 162, 167, 172, 177] ++
  [181, 185, 190, 194, 198, 202, 206, 209, 213, 216, 220, 223, 226, 229, 231, 234] ++
  [237, 239, 241, 243, 245, 247, 248, 250, 251, 252, 253, 254, 255, 255, 256, 256] ++
  [256, 256, 256, 255, 255, 254, 253, 252, 251, 250, 248, 247, 245, 243, 241, 239] ++
  [237, 234, 231, 229, 226, 223, 220, 216, 213, 209, 206, 202, 198, 194, 190, 185] ++
  [181, 177, 172, 167, 162, 157, 152, 147, 142, 137, 132, 126, 121, 115, 109, 104] ++
  [98, 92, 86, 80, 74, 68, 62, 56, 50, 44, 38, 31, 25, 19, 13, 6]

/-- SINTAB of CFG_REF, i = 128..255: rows r8 to r15 of R141. -/
def refSineLower : List Int :=
  [0, -6, -13, -19, -25, -31, -38, -44, -50, -56, -62, -68, -74, -80, -86, -92] ++
  [-98, -104, -109, -115, -121, -126, -132, -137, -142, -147, -152, -157, -162, -167, -172, -177] ++
  [-181, -185, -190, -194, -198, -202, -206, -209, -213, -216, -220, -223, -226, -229, -231, -234] ++
  [-237, -239, -241, -243, -245, -247, -248, -250, -251, -252, -253, -254, -255, -255, -256, -256] ++
  [-256, -256, -256, -255, -255, -254, -253, -252, -251, -250, -248, -247, -245, -243, -241, -239] ++
  [-237, -234, -231, -229, -226, -223, -220, -216, -213, -209, -206, -202, -198, -194, -190, -185] ++
  [-181, -177, -172, -167, -162, -157, -152, -147, -142, -137, -132, -126, -121, -115, -109, -104] ++
  [-98, -92, -86, -80, -74, -68, -62, -56, -50, -44, -38, -31, -25, -19, -13, -6]

/-- SINTAB of CFG_REF (R141). -/
def refSintab : List Int := refSineUpper ++ refSineLower

/-- The fields of CFG_REF (R5). -/
def refParams : Params where
  ww := 32
  wf := 8
  nw := 16
  nf := 8
  wu := 8
  sintab := refSintab
  qdIshift := 0
  qdLo := 1
  qdHi := 1024
  recip := tabulate (fun i => 65536 / (i + 1)) 0 1024
  qdShift := 8
  lw := 7
  lh := 6
  hx := 256
  hy := 128
  hz := 256
  tBand := 8
  cloudH := 40960
  groundFlat := 2
  skyLevel := 1
  dm0 := ⟨0, 2, 3, 1⟩
  dm1 := ⟨3, 1, 0, 2⟩
  dsel := ⟨false, true, false, true⟩
  fth0 := 0
  fth1 := 2
  gtex := tabulate (fun i => BitVec.ofNat 8 ((i % 64 + 2 * (i / 64)) % 5)) 0 4096
  ctex := tabulate (fun i => BitVec.ofNat 8 ((3 * (i % 32) + i / 32) % 5)) 0 1024
  initPos := ⟨0, 8192, 0⟩

/-- Every entry of the reference sine table is a narrow raw value. -/
theorem refSintab_fits : ∀ z ∈ refSintab, Fits 16 z := by decide +kernel

/-- CFG_REF meets the constraints of R5. -/
theorem refParams_wellFormed : refParams.WellFormed where
  ww_ge := by decide
  wf_lt := by decide
  nw_ge := by decide
  nf_lt := by decide
  wu_ok := by decide
  sintab_length := by decide +kernel
  sintab_fits := refSintab_fits
  qd_le := by decide
  recip_length := length_tabulate _ _ _
  lw_ge := by decide
  lw_le := by decide
  lh_ge := by decide
  lh_le := by decide
  hx_fits := by decide
  hy_fits := by decide
  hz_fits := by decide
  tBand_lt := by decide
  cloudH_fits := by decide
  gtex_length := length_tabulate _ _ _
  ctex_length := length_tabulate _ _ _
  initPos_fits := by decide

/-- CFG_REF, the reference configuration of R5. -/
def Cfg.ref : Cfg := { refParams with ok := refParams_wellFormed }

/-! ### The free value -/

/-- The value of the `n`-th unspecified result drawn (UNSPEC of R132, R133; U2). No body: nothing can
be proved of it. The register write reduces it to its width (assumption log 4). -/
opaque Config.freeValue : Nat → Int

end Sys2Proof
end

