-- ==== Sys2Proof/Machine/Arith.lean ====
section
/-! DEFINITION. The integer arithmetic of the spec's pseudocode (00_scope.md R9, R10) and the pure
functions of the scalar ALU (41_scalar_alu.md R145 to R149). Intermediates are exact integers; only a
final `wrap` reduces to a width. -/

namespace Sys2Proof.Machine

/-- `wrap_w(z)`: the integer in [-2^(w-1), 2^(w-1) - 1] congruent to `z` modulo 2^w (R9). -/
def wrap (w : Nat) (z : Int) : Int := Int.bmod z (2 ^ w)

/-- wrapW (R9). -/
def wrapW (c : Cfg) (z : Int) : Int := wrap c.ww z

/-- wrapN (R9). -/
def wrapN (c : Cfg) (z : Int) : Int := wrap c.nw z

/-- The bit pattern of width `w` whose signed reading is `z` (R9, R63). -/
def pattern (w : Nat) (z : Int) : Nat := (z % ((2 ^ w : Nat) : Int)).toNat

/-- `a >>a s`: floor(a / 2^s) (R10); integer division by a positive number rounds down. -/
def asr (a : Int) (s : Nat) : Int := a / ((2 ^ s : Nat) : Int)

/-- `a << s`: a * 2^s (R10). -/
def shl (a : Int) (s : Nat) : Int := a * ((2 ^ s : Nat) : Int)

/-- `tdiv(a, b)`: division truncated toward zero (R10). -/
def tdiv (a b : Int) : Int := Int.tdiv a b

/-- `a & (2^k - 1)`: a mod 2^k, in [0, 2^k - 1] for negative `a` as well (R10). -/
def lowBits (a : Int) (k : Nat) : Nat := pattern k a

/-- `clamp(v, lo, hi) = min(max(v, lo), hi)` (R10). -/
def clamp (v lo hi : Int) : Int := min (max v lo) hi

/-- The sign extension of a 16-bit immediate (R11, R95). -/
def sext16 (imm : BitVec 16) : Int := imm.toInt

/-- `s_8(p)`: the signed reading of an angle (R9, R23). -/
def signed8 (b : Byte) : Int := b.toInt

/-- mulW: wide x wide (R145). -/
def mulW (c : Cfg) (a b : Int) : Int := wrapW c (asr (a * b) c.wf)

/-- mulN: narrow x narrow (R145). -/
def mulN (c : Cfg) (a b : Int) : Int := wrapN c (asr (a * b) c.nf)

/-- mulWN: wide x narrow, a wide result (R145). -/
def mulWN (c : Cfg) (a b : Int) : Int := wrapW c (asr (a * b) c.nf)

/-- divW, for `b ≠ 0` (R146). -/
def divW (c : Cfg) (a b : Int) : Int := wrapW c (tdiv (shl a c.wf) b)

/-- divN, for `b ≠ 0` (R146). -/
def divN (c : Cfg) (a b : Int) : Int := wrapN c (tdiv (shl a c.nf) b)

/-- `RECIP[i]` (R5, R61). -/
def recipAt (c : Cfg) (i : Nat) : Nat := c.recip.getD i 0

/-- The index that qdiv reads RECIP at: the shifted magnitude, clamped (R147). -/
def qdivIndex (c : Cfg) (d : Int) : Nat := min (max (d.natAbs / 2 ^ c.qdIshift) c.qdLo) c.qdHi - c.qdLo

/-- qdiv: the reciprocal-table divide (R147). -/
def qdiv (c : Cfg) (n d : Int) : Int :=
  let q := asr (n * (recipAt c (qdivIndex c d) : Int)) c.qdShift
  wrapW c (if d < 0 then -q else q)

/-- `sin(a) = SINTAB[a & 255]` (R148). -/
def sinOf (c : Cfg) (a : Byte) : Int := c.sintab.getD a.toNat 0

/-- `cos(a) = SINTAB[(a + 64) & 255]` (R148). -/
def cosOf (c : Cfg) (a : Byte) : Int := sinOf c (a + 64#8)

/-- cvtNW: narrow to wide, the same fixed-point value (R149). -/
def cvtNW (c : Cfg) (v : Int) : Int :=
  wrapW c (if c.nf ≤ c.wf then shl v (c.wf - c.nf) else asr v (c.nf - c.wf))

/-- cvtWN: wide to narrow, the same fixed-point value (R149). -/
def cvtWN (c : Cfg) (v : Int) : Int :=
  wrapN c (if c.nf ≤ c.wf then asr v (c.wf - c.nf) else shl v (c.nf - c.wf))

end Sys2Proof.Machine
end

