-- ==== Sys2Proof/Machine/State.lean ====
section
/-! DEFINITION. The state of the machine, as plain data: the six register files, the ten special
registers and the framebuffer (10_state.md R20 to R37, 20_memory.md R60), the configuration record CFG
that the spec hands the model (00_scope.md R5), and the host's side of the port (20_memory.md R62 to
R66); the reasons a step could stop; and the machine right after reset (R40, R300). -/

namespace Sys2Proof.Machine

/-- Why a step could stop with a fault. It has NO constructor: nobody raises a fault, because "FXR
raises no synchronous exception" (60_exceptions.md R280). Safe (assumption log 7). -/
inductive Fault
deriving DecidableEq, Repr

/-- Why an instruction could be refused. -/
inductive Refusal where
  /-- The instruction has no meaning in the model. Raised only by an arm of exec that rejects its
  instruction by name; no arm does, so nobody raises it. Safe (assumption log 7). -/
  | notModelled (mnemonic : String)
deriving DecidableEq, Repr

/-- The framebuffer memory: (index, byte) cells (R60). Canonical form: indices strictly rising, and no
byte equal to what an unlisted index reads as (`Memory.wf`, Machine/Ops.lean). -/
abbrev Memory := List Host.Cell

/-- DESIGN CHOICE (unsafe, assumption log 3): what a framebuffer byte reads as that nothing has written
since reset. The spec leaves it unspecified (R40). -/
def Memory.unlisted : Byte := 0#8

/-- A memory space of the host port (R60, R61). -/
inductive Space where
  | fb
  | gtex
  | ctex
  | sintab
  | recip
deriving DecidableEq, Repr

/-- A host action (R62 to R65). Numbers outside a register file, a lane or a space are allowed: the
action is then ignored or returns 0 (R36, R63, R64). -/
inductive HostAction where
  /-- `Reset` (R62, R300). -/
  | reset
  /-- `HostReadReg(file, idx, lane)` (R63). -/
  | readReg (file idx lane : Nat)
  /-- `HostWriteReg(file, idx, lane, value)` (R63). -/
  | writeReg (file idx lane value : Nat)
  /-- `HostReadMem(space, i)` (R64). -/
  | readMem (space : Space) (i : Nat)
  /-- `HostWriteMem(space, i, byte)` (R64). -/
  | writeMem (space : Space) (i : Nat) (byte : Byte)
  /-- `Issue(word)` (R65). -/
  | issue (word : Word)
deriving DecidableEq, Repr

/-- The state. A W or N lane is held as the signed integer that the spec's pseudocode reads from it
(R9, R11; assumption log 9). -/
structure State where
  /-- W[0..15], wide scalars (R21). -/
  w : Vector Int 16
  /-- N[0..15], narrow scalars (R22). -/
  n : Vector Int 16
  /-- B[0..15], bytes (R23). -/
  b : Vector Byte 16
  /-- VW[0..15], world-scale vectors (R24). -/
  vw : Vector V3 16
  /-- VN[0..15], unit-scale vectors (R25). -/
  vn : Vector V3 16
  /-- M[0..15], matrices (R26). -/
  m : Vector Mat 16
  /-- CAM_POS, special register 0 (R27). -/
  camPos : V3
  /-- CAM_ROT, special register 1 (R28). -/
  camRot : Mat
  /-- CAM_INV, special register 2 (R28). -/
  camInv : Mat
  /-- PITCH, special register 3 (R29). -/
  pitch : Byte
  /-- ROLL, special register 4 (R29). -/
  roll : Byte
  /-- YAW, special register 5 (R29). -/
  yaw : Byte
  /-- RCTRL, special register 6; bit 0 is FULLRES (R30). -/
  rctrl : Byte
  /-- STATUS, special register 7; bit 0 is ILL (R31). -/
  status : Byte
  /-- CLS, special register 8 (R32). -/
  cls : BitVec 2
  /-- DIST, special register 9 (R33). -/
  dist : Int
  /-- FB, the framebuffer (R60). -/
  fb : Memory
  /-- The model's own field: how many unspecified values have been drawn (assumption log 4). -/
  draws : Nat
  /-- The model's own field: the host actions still to be performed, in order (assumption log 5). -/
  host : List HostAction
  /-- The model's own field: what the last host read returned (assumption log 6). -/
  readData : Option Int
  /-- CFG. Not state of the spec; no step changes it (R5, assumption log 1). -/
  cfg : Cfg
deriving DecidableEq, Repr

/-- The identity matrix with ONE_N on its diagonal (R40, R180). -/
def identity (c : Cfg) : Mat := ⟨⟨c.oneN, 0, 0⟩, ⟨0, c.oneN, 0⟩, ⟨0, 0, c.oneN⟩⟩

/-- The state right after reset of a block configured with `c` (R40, R300). The general registers,
which R40 leaves unspecified, hold 0: DESIGN CHOICE, unsafe (assumption log 2). -/
def State.resetWith (c : Cfg) : State where
  w := Vector.replicate 16 0
  n := Vector.replicate 16 0
  b := Vector.replicate 16 0#8
  vw := Vector.replicate 16 V3.zero
  vn := Vector.replicate 16 V3.zero
  m := Vector.replicate 16 Mat.zero
  camPos := c.initPos
  camRot := identity c
  camInv := identity c
  pitch := 0#8
  roll := 0#8
  yaw := 0#8
  rctrl := 0#8
  status := 0#8
  cls := 0#2
  dist := 0
  fb := []
  draws := 0
  host := []
  readData := none
  cfg := c

/-- The machine right after reset, with the reference configuration CFG_REF (R5, R40, R300;
assumption log 1). -/
def State.reset : State := State.resetWith Cfg.ref

/-- What a meaning answers. -/
abbrev Result := Host.Outcome State Fault Refusal

end Sys2Proof.Machine
end

