-- ==== Sys2Proof/Machine/Ops.lean ====
section
/-! DEFINITION. The named operations over the registers, the special registers and the framebuffer.
Every write of a lane wraps to the lane's width (00_scope.md R9 to R11), here and nowhere else. FXR has
no exception to take (60_exceptions.md R280, R286, R287); what stands in its place, the effect of an
illegal word, is `State.takeIllegal`. -/

namespace Sys2Proof.Machine

/-! ### General registers: read (R21 to R26) -/

/-- `W[r]` as a signed integer. -/
def State.readW (s : State) (r : RegNo) : Int := s.w[r.toNat]'r.isLt

/-- `N[r]` as a signed integer. -/
def State.readN (s : State) (r : RegNo) : Int := s.n[r.toNat]'r.isLt

/-- `B[r]`. -/
def State.readB (s : State) (r : RegNo) : Byte := s.b[r.toNat]'r.isLt

/-- `VW[r]`. -/
def State.readVW (s : State) (r : RegNo) : V3 := s.vw[r.toNat]'r.isLt

/-- `VN[r]`. -/
def State.readVN (s : State) (r : RegNo) : V3 := s.vn[r.toNat]'r.isLt

/-- `M[r]`. -/
def State.readM (s : State) (r : RegNo) : Mat := s.m[r.toNat]'r.isLt

/-! ### General registers: write -/

/-- `W[r] <- v`. -/
def State.writeW (s : State) (r : RegNo) (v : Int) : State :=
  { s with w := s.w.set r.toNat (wrapW s.cfg v) r.isLt }

/-- `N[r] <- v`. -/
def State.writeN (s : State) (r : RegNo) (v : Int) : State :=
  { s with n := s.n.set r.toNat (wrapN s.cfg v) r.isLt }

/-- `B[r] <- v`. -/
def State.writeB (s : State) (r : RegNo) (v : Byte) : State :=
  { s with b := s.b.set r.toNat v r.isLt }

/-- `VW[r] <- v`, each lane wrapped (R174). -/
def State.writeVW (s : State) (r : RegNo) (v : V3) : State :=
  { s with vw := s.vw.set r.toNat (v.map (wrapW s.cfg)) r.isLt }

/-- `VN[r] <- v`, each lane wrapped (R174). -/
def State.writeVN (s : State) (r : RegNo) (v : V3) : State :=
  { s with vn := s.vn.set r.toNat (v.map (wrapN s.cfg)) r.isLt }

/-- `M[r] <- v`, each lane wrapped. -/
def State.writeM (s : State) (r : RegNo) (v : Mat) : State :=
  { s with m := s.m.set r.toNat (v.map (wrapN s.cfg)) r.isLt }

/-- `VW[r][l] <- v`; the other two lanes keep their values (R63, R172). -/
def State.writeVWLane (s : State) (r : RegNo) (l : Lane) (v : Int) : State :=
  { s with vw := s.vw.set r.toNat ((s.readVW r).set l (wrapW s.cfg v)) r.isLt }

/-- `VN[r][l] <- v`; the other two lanes keep their values (R63, R173). -/
def State.writeVNLane (s : State) (r : RegNo) (l : Lane) (v : Int) : State :=
  { s with vn := s.vn.set r.toNat ((s.readVN r).set l (wrapN s.cfg v)) r.isLt }

/-- `M[r][i][j] <- v`; the other eight lanes keep their values (R63). -/
def State.writeMLane (s : State) (r : RegNo) (i j : Lane) (v : Int) : State :=
  { s with m := s.m.set r.toNat ((s.readM r).set i j (wrapN s.cfg v)) r.isLt }

/-! ### Special registers -/

/-- The transpose (R189: `mtrans(A)[r][c] = A[c][r]`). -/
def mtrans (a : Mat) : Mat := Mat.ofFn fun r c => a.get c r

/-- `CAM_POS <- v`, each lane wrapped (R27). -/
def State.writeCamPos (s : State) (v : V3) : State := { s with camPos := v.map (wrapW s.cfg) }

/-- `CAM_POS[l] <- v` (R27, R63). -/
def State.writeCamPosLane (s : State) (l : Lane) (v : Int) : State :=
  { s with camPos := s.camPos.set l (wrapW s.cfg v) }

/-- `CAM_ROT <- R; CAM_INV <- mtrans(R)`: every write of the one writes the other (R28). -/
def State.writeCamRot (s : State) (v : Mat) : State :=
  { s with camRot := v.map (wrapN s.cfg), camInv := (mtrans v).map (wrapN s.cfg) }

/-- `PITCH <- p; ROLL <- r; YAW <- y` (R29). -/
def State.writeAngles (s : State) (p r y : Byte) : State := { s with pitch := p, roll := r, yaw := y }

/-- A host write of RCTRL keeps bit 0, FULLRES; bits 7:1 stay 0 (R30). -/
def State.writeRctrl (s : State) (v : Byte) : State := { s with rctrl := v &&& 1#8 }

/-! ### The framebuffer memory (R60) -/

/-- The byte at index `a`. -/
def Memory.read : Memory → Nat → Byte
  | [], _ => Memory.unlisted
  | (k, v) :: t, a => if k = a then v else Memory.read t a

/-- The memory without an entry for index `a`. -/
def Memory.erase (m : Memory) (a : Nat) : Memory := m.filter fun c => c.1 != a

/-- The memory with an entry (`a`, `v`) before the first greater index. -/
def Memory.insert : Memory → Nat → Byte → Memory
  | [], a, v => [(a, v)]
  | (k, u) :: t, a, v => if a < k then (a, v) :: (k, u) :: t else (k, u) :: Memory.insert t a v

/-- Byte `a` becomes `v`; the value an unlisted index reads as is not listed. -/
def Memory.write (m : Memory) (a : Nat) (v : Byte) : Memory :=
  if v = Memory.unlisted then m.erase a else (m.erase a).insert a v

/-- The canonical form: indices strictly rising, no byte equal to an unlisted one. -/
def Memory.wf : Memory → Bool
  | [] => true
  | [(_, v)] => v != Memory.unlisted
  | (k, v) :: (k', v') :: t => k < k' && v != Memory.unlisted && Memory.wf ((k', v') :: t)

/-- `MemRead(FB, i)` (R11). -/
def State.readFB (s : State) (i : Nat) : Byte := s.fb.read i

/-- `MemWrite(FB, i, b)` (R11). -/
def State.writeFB (s : State) (i : Nat) (v : Byte) : State := { s with fb := s.fb.write i v }

/-! ### The read-only configuration spaces (R61) -/

/-- `MemRead(GTEX, i)`. -/
def gtexAt (c : Cfg) (i : Nat) : Byte := c.gtex.getD i 0#8

/-- `MemRead(CTEX, i)`. -/
def ctexAt (c : Cfg) (i : Nat) : Byte := c.ctex.getD i 0#8

/-! ### The illegal word -/

/-- The whole effect of an illegal command word: `STATUS.ILL <- 1` (30_encoding.md R104, R282). -/
def State.takeIllegal (s : State) : State := { s with status := s.status ||| 1#8 }

/-! ### The free value -/

/-- The next unspecified value (UNSPEC, R132, R133), still to be reduced to its width. -/
def State.unspec (s : State) : Int := Config.freeValue s.draws

/-- One unspecified value has been drawn. -/
def State.drawn (s : State) : State := { s with draws := s.draws + 1 }

end Sys2Proof.Machine
end

