-- ==== Sys2Proof/Machine/Flags.lean ====
section
/-! DEFINITION. FXR's one condition code, CLS (10_state.md R32), the latched distance DIST (R33), and the
fields of RCTRL and STATUS (R30, R31). -/

namespace Sys2Proof.Machine

/-- The four classes of a ray (43_rayplane.md R203). -/
inductive RayClass where
  | sky
  | ground
  | dead
  | cloud
deriving DecidableEq, Repr

/-- The code of a class in CLS: 0 SKY, 1 GROUND, 2 DEAD, 3 CLOUD (R32). -/
def classCode : RayClass → BitVec 2
  | .sky => 0#2
  | .ground => 1#2
  | .dead => 2#2
  | .cloud => 3#2

/-- `CLS <- c` (R32). -/
def State.setCls (s : State) (k : RayClass) : State := { s with cls := classCode k }

/-- `DIST <- d` (R33). -/
def State.setDist (s : State) (d : Int) : State := { s with dist := wrapW s.cfg d }

/-- `DIST <- dist` where there is one; otherwise DIST keeps its value (47_render.md R262). -/
def State.setDistIf (s : State) : Option Int → State
  | some d => s.setDist d
  | none => s

/-- RCTRL.FULLRES (R30). -/
def State.fullRes (s : State) : Bool := s.rctrl.getLsbD 0

/-- STATUS.ILL (R31). -/
def State.ill (s : State) : Bool := s.status.getLsbD 0

end Sys2Proof.Machine
end

