-- ==== Sys2Proof/Machine/Operands.lean ====
section
/-! DEFINITION. The operand forms other than a plain register number (30_encoding.md R91, R95): the lane
constant, the parity constant, the pixel coordinates that the framebuffer writer masks (R220). -/

namespace Sys2Proof.Machine

/-- The lane that a lane field names; `none` for 3, which is illegal (R91, R104 c). -/
def laneOf (f : BitVec 2) : Option Lane :=
  match f with
  | 0#2 => some 0
  | 1#2 => some 1
  | 2#2 => some 2
  | _ => none

/-- What a command with a lane operand does: its effect for lane 0, 1 or 2; for the value 3, which no
legal word holds, the effect of an illegal word (R104 c; assumption log 8). -/
def withLane (f : BitVec 2) (s : State) (effect : Lane → State) : Result :=
  match laneOf f with
  | some l => .next (effect l)
  | none => .next s.takeIllegal

/-- `x & (SW - 1)`: a column masked into the screen (R220). -/
def maskX (c : Cfg) (x : Nat) : Nat := x % c.sw

/-- `y & (SH - 1)`: a row masked into the screen (R220). -/
def maskY (c : Cfg) (y : Nat) : Nat := y % c.sh

/-- `page & (PAGES - 1)`: a page masked into the screen (R226). -/
def maskPage (c : Cfg) (p : Nat) : Nat := p % c.pages

end Sys2Proof.Machine
end

