-- ==== Sys2Proof/Machine/MatrixUnit.lean ====
section
/-! DEFINITION. The matrix commands of 42_vector_matrix.md (R180 to R187), the elementary rotations
(R188) and the matrix product and vector transform (R189). A vector is a row, multiplied on the left of
a matrix (R188). -/

namespace Sys2Proof.Machine

/-- EX(t) (R188). -/
def rotX (c : Cfg) (t : Byte) : Mat :=
  ⟨⟨c.oneN, 0, 0⟩, ⟨0, cosOf c t, sinOf c t⟩, ⟨0, wrapN c (-sinOf c t), cosOf c t⟩⟩

/-- EY(t) (R188). -/
def rotY (c : Cfg) (t : Byte) : Mat :=
  ⟨⟨cosOf c t, 0, wrapN c (-sinOf c t)⟩, ⟨0, c.oneN, 0⟩, ⟨sinOf c t, 0, cosOf c t⟩⟩

/-- EZ(t) (R188). -/
def rotZ (c : Cfg) (t : Byte) : Mat :=
  ⟨⟨cosOf c t, sinOf c t, 0⟩, ⟨wrapN c (-sinOf c t), cosOf c t, 0⟩, ⟨0, 0, c.oneN⟩⟩

/-- `mvmul(v, M)[c]`: each product floor-shifted on its own, then the sum wrapped (R189). -/
def mvmul (c : Cfg) (v : V3) (m : Mat) : V3 := V3.ofFn fun j =>
  wrapN c (asr (v.x * m.get 0 j) c.nf + asr (v.y * m.get 1 j) c.nf + asr (v.z * m.get 2 j) c.nf)

/-- `mmul(A, B)[r][c]` (R189). -/
def mmul (c : Cfg) (a b : Mat) : Mat := Mat.ofFn fun i j =>
  wrapN c (asr (a.get i 0 * b.get 0 j) c.nf + asr (a.get i 1 * b.get 1 j) c.nf
    + asr (a.get i 2 * b.get 2 j) c.nf)

/-- `Forward()`: row 2 of the matrix (R187, R188). -/
def forward (m : Mat) : V3 := ⟨m.get 2 0, m.get 2 1, m.get 2 2⟩

/-- MIDENT (R180). -/
def execMident (rd : RegNo) (s : State) : Result := .next (s.writeM rd (identity s.cfg))

/-- MROTX (R181). -/
def execMrotx (rd ra : RegNo) (s : State) : Result := .next (s.writeM rd (rotX s.cfg (s.readB ra)))

/-- MROTY (R182). -/
def execMroty (rd ra : RegNo) (s : State) : Result := .next (s.writeM rd (rotY s.cfg (s.readB ra)))

/-- MROTZ (R183). -/
def execMrotz (rd ra : RegNo) (s : State) : Result := .next (s.writeM rd (rotZ s.cfg (s.readB ra)))

/-- MMUL (R184). -/
def execMmul (rd ra rb : RegNo) (s : State) : Result :=
  .next (s.writeM rd (mmul s.cfg (s.readM ra) (s.readM rb)))

/-- MTRANS (R185). -/
def execMtrans (rd ra : RegNo) (s : State) : Result := .next (s.writeM rd (mtrans (s.readM ra)))

/-- MVMUL (R186). -/
def execMvmul (rd ra rb : RegNo) (s : State) : Result :=
  .next (s.writeVN rd (mvmul s.cfg (s.readVN ra) (s.readM rb)))

/-- MFWD (R187). -/
def execMfwd (rd ra : RegNo) (s : State) : Result := .next (s.writeVN rd (forward (s.readM ra)))

end Sys2Proof.Machine
end

