-- ==== Sys2Proof/Machine/Camera.lean ====
section
/-! DEFINITION. The camera commands (46_camera.md R240 to R245). -/

namespace Sys2Proof.Machine

/-- camrot(p, r, y) = mmul(mmul(EZ(r), EX(-p)), EY(-y)), angles negated modulo 256 (R241). -/
def camrot (c : Cfg) (p r y : Byte) : Mat :=
  mmul c (mmul c (rotZ c r) (rotX c (-p))) (rotY c (-y))

/-- CAMROT (R240). -/
def execCamrot (s : State) : Result := .next (s.writeCamRot (camrot s.cfg s.pitch s.roll s.yaw))

/-- 1 if the bit is set, else 0. -/
def bitInt (b : Bool) : Int := if b then 1 else 0

/-- `turn = clamp(tdiv(s_8(roll), 8), -3, 3)` (R242 step 2). -/
def turn (roll : Byte) : Int := clamp (tdiv (signed8 roll) 8) (-3) 3

/-- Step 1 for the pitch: down adds 1, up subtracts 1, modulo 256 (R242; mask bit 0 up, bit 1 down). -/
def tickPitch (mask : BitVec 4) (pitch : Byte) : Byte :=
  BitVec.ofInt 8 ((pitch.toNat : Int) + bitInt (mask.getLsbD 1) - bitInt (mask.getLsbD 0))

/-- Step 1 for the roll: left adds 1, right subtracts 1, modulo 256 (R242; bit 2 left, bit 3 right). -/
def tickRoll (mask : BitVec 4) (roll : Byte) : Byte :=
  BitVec.ofInt 8 ((roll.toNat : Int) + bitInt (mask.getLsbD 2) - bitInt (mask.getLsbD 3))

/-- Step 2: the yaw turned by the new roll, modulo 256 (R242). -/
def tickYaw (roll yaw : Byte) : Byte := BitVec.ofInt 8 ((yaw.toNat : Int) + turn roll)

/-- Steps 5 and 6: the position moved by the forward vector `f`, lanes wrapped, then the altitude
clamped (R242). -/
def tickPos (c : Cfg) (p f : V3) : V3 :=
  ⟨wrapW c (p.x + cvtNW c f.x),
   clamp (wrapW c (p.y + cvtNW c f.y)) c.altMin c.altMax,
   wrapW c (p.z + cvtNW c f.z)⟩

/-- CAMTICK (R242): the six steps of the camera update. -/
def execCamtick (mask : BitVec 4) (s : State) : Result :=
  let p := tickPitch mask s.pitch
  let r := tickRoll mask s.roll
  let y := tickYaw r s.yaw
  let m := camrot s.cfg p r y
  .next (((s.writeAngles p r y).writeCamRot m).writeCamPos (tickPos s.cfg s.camPos (forward m)))

/-- MCAM (R243): `M[rd] <- CAM_ROT`. -/
def execMcam (rd : RegNo) (s : State) : Result := .next (s.writeM rd s.camRot)

/-- MCAMI (R244): `M[rd] <- CAM_INV`. -/
def execMcami (rd : RegNo) (s : State) : Result := .next (s.writeM rd s.camInv)

/-- VCAM (R245): `VW[rd] <- CAM_POS`. -/
def execVcam (rd : RegNo) (s : State) : Result := .next (s.writeVW rd s.camPos)

end Sys2Proof.Machine
end

