-- ==== Sys2Proof/Machine/DitherFb.lean ====
section
/-! DEFINITION. The ordered-dither quantizer and the framebuffer writer (45_dither_fb.md): R220 to R228. -/

namespace Sys2Proof.Machine

/-- th(dx, dy): the threshold of a block pixel (R221). -/
def threshold (c : Cfg) (dx dy : Fin 2) : Int :=
  if c.dsel.get dy dx then c.dm1.get dy dx else c.dm0.get dy dx

/-- qbit(l, dx, dy): is the block pixel set? (R221) -/
def qbit (c : Cfg) (l : Byte) (dx dy : Fin 2) : Bool := decide (threshold c dx dy < (l.toNat : Int))

/-- A bit as a byte, 0 or 1. -/
def bitByte (b : Bool) : Byte := if b then 1#8 else 0#8

/-- qmask(l): pixel (dx, dy) at bit 2*dy + dx (R227). -/
def qmask (c : Cfg) (l : Byte) : Byte :=
  bitByte (qbit c l 0 0) ||| bitByte (qbit c l 1 0) <<< 1
    ||| bitByte (qbit c l 0 1) <<< 2 ||| bitByte (qbit c l 1 1) <<< 3

/-- fbit(l, par): is a pixel of this parity set in the full-resolution strategy? (R228) -/
def fbit (c : Cfg) (l : Byte) (par : Bool) : Bool :=
  decide ((if par then c.fth1 else c.fth0) < (l.toNat : Int))

/-- `(old & ~(1 << n) & 0xFF) | (b << n)`: bit `n` of a byte becomes `b` (R220). -/
def putBit (old : Byte) (n : Nat) (b : Bool) : Byte := (old &&& ~~~(1#8 <<< n)) ||| bitByte b <<< n

/-- The index of the byte that holds pixel (x, y), coordinates masked (R60, R220). -/
def pixIndex (c : Cfg) (x y : Nat) : Nat := maskY c y / 8 * c.sw + maskX c x

/-- The bit of that byte (R60, R220). -/
def pixBit (c : Cfg) (y : Nat) : Nat := maskY c y % 8

/-- setpix(x, y, b) (R220). -/
def setpix (c : Cfg) (fb : Memory) (x y : Nat) (b : Bool) : Memory :=
  let i := pixIndex c x y
  fb.write i (putBit (fb.read i) (pixBit c y) b)

/-- The four pixel writes of a 2x2 block, dy outer, dx inner, each coordinate masked by itself (R225,
R264 step 6). -/
def setBlock (c : Cfg) (fb : Memory) (x y : Nat) (m : Byte) : Memory :=
  let fb := setpix c fb x y (m.getLsbD 0)
  let fb := setpix c fb (x + 1) y (m.getLsbD 1)
  let fb := setpix c fb x (y + 1) (m.getLsbD 2)
  setpix c fb (x + 1) (y + 1) (m.getLsbD 3)

/-- The index that FBST stores at (R226). -/
def pageIndex (c : Cfg) (x page : Nat) : Nat := maskPage c page * c.sw + maskX c x

/-- DQC (R222): `B[rd] <- qmask(B[ra])`. -/
def execDqc (rd ra : RegNo) (s : State) : Result := .next (s.writeB rd (qmask s.cfg (s.readB ra)))

/-- DQF (R223): `B[rd] <- fbit(B[ra], par)`, a byte 0 or 1. -/
def execDqf (rd ra : RegNo) (par : BitVec 1) (s : State) : Result :=
  .next (s.writeB rd (bitByte (fbit s.cfg (s.readB ra) (par == 1#1))))

/-- FBPIX (R224): `setpix(x, y, B[ra][0:0])`. -/
def execFbpix (ra : RegNo) (x y : Byte) (s : State) : Result :=
  .next { s with fb := setpix s.cfg s.fb x.toNat y.toNat ((s.readB ra).getLsbD 0) }

/-- FBBLK (R225). -/
def execFbblk (ra : RegNo) (x y : Byte) (s : State) : Result :=
  .next { s with fb := setBlock s.cfg s.fb x.toNat y.toNat (s.readB ra) }

/-- FBST (R226): a whole byte, eight stacked pixels, without a read. -/
def execFbst (ra : RegNo) (x page : Byte) (s : State) : Result :=
  .next (s.writeFB (pageIndex s.cfg x.toNat page.toNat) (s.readB ra))

end Sys2Proof.Machine
end

