-- ==== Sys2Proof/Machine/RayPlane.lean ====
section
/-! DEFINITION. The ray/plane intersection unit (43_rayplane.md): classification R203, the two solves
R204 and R205, the commands R200 to R202. The band [-T, 0) is DEAD and [0, T] is SKY (90_conflicts.md C1,
C2). -/

namespace Sys2Proof.Machine

/-- classify(y) (R203). -/
def classify (c : Cfg) (y : Int) : RayClass :=
  if y < -(c.tBand : Int) then .ground
  else if y < 0 then .dead
  else if (c.tBand : Int) < y then .cloud
  else .sky

/-- The point of a plane at height `h` that a ray from `p` along `d` reaches at distance `dist`: the
common part of R204 and R205. -/
def planePoint (c : Cfg) (p d : V3) (h dist : Int) : V3 :=
  ⟨wrapW c (p.x + mulWN c dist d.x), h, wrapW c (p.z + mulWN c dist d.z)⟩

/-- ground(p, d): the point and the distance (R204). -/
def groundHit (c : Cfg) (p d : V3) : V3 × Int :=
  let dist := qdiv c p.y (wrapN c (-d.y))
  (planePoint c p d 0 dist, dist)

/-- cloud(p, d): the point and the distance (R205). -/
def cloudHit (c : Cfg) (p d : V3) : V3 × Int :=
  let dist := qdiv c (wrapW c (c.cloudH - p.y)) d.y
  (planePoint c p d c.cloudH dist, dist)

/-- RCLASS (R200): `CLS <- classify(N[ra])`. -/
def execRclass (ra : RegNo) (s : State) : Result := .next (s.setCls (classify s.cfg (s.readN ra)))

/-- RGND (R201): the class of the direction is not checked. -/
def execRgnd (rd ra rb : RegNo) (s : State) : Result :=
  let hit := groundHit s.cfg (s.readVW ra) (s.readVN rb)
  .next ((s.writeVW rd hit.1).setDist hit.2)

/-- RCLD (R202): the class of the direction is not checked. -/
def execRcld (rd ra rb : RegNo) (s : State) : Result :=
  let hit := cloudHit s.cfg (s.readVW ra) (s.readVN rb)
  .next ((s.writeVW rd hit.1).setDist hit.2)

end Sys2Proof.Machine
end

