-- ==== Sys2Proof/Machine/Texture.lean ====
section
/-! DEFINITION. The texture sampler (44_texture.md): addresses R210, commands R211 and R212. -/

namespace Sys2Proof.Machine

/-- gaddr(p): the index of the ground texel under a point (R210). -/
def gaddr (c : Cfg) (p : V3) : Nat := lowBits (asr p.z c.texSh) 6 * 64 + lowBits (asr p.x c.texSh) 6

/-- caddr(p): the index of the cloud texel at a point (R210). -/
def caddr (c : Cfg) (p : V3) : Nat := lowBits (asr p.z c.texSh) 5 * 32 + lowBits (asr p.x c.texSh) 5

/-- TEXG (R211). -/
def execTexg (rd ra : RegNo) (s : State) : Result :=
  .next (s.writeB rd (gtexAt s.cfg (gaddr s.cfg (s.readVW ra))))

/-- TEXC (R212). -/
def execTexc (rd ra : RegNo) (s : State) : Result :=
  .next (s.writeB rd (ctexAt s.cfg (caddr s.cfg (s.readVW ra))))

end Sys2Proof.Machine
end

