-- ==== Sys2Proof/Machine/VectorUnit.lean ====
section
/-! DEFINITION. The vector commands of 42_vector_matrix.md (R160 to R173) and the functions cross
(R175) and lerp (R176). All three lanes are always processed (R174); every source lane is read before a
destination lane is written (R96). -/

namespace Sys2Proof.Machine

/-- The cross product, each product through `mul` (R175). -/
def cross (mul : Int → Int → Int) (a b : V3) : V3 :=
  ⟨mul a.y b.z - mul a.z b.y, mul a.z b.x - mul a.x b.z, mul a.x b.y - mul a.y b.x⟩

/-- One lane of lerp (R176): `wrapN(a + (((b - a) * k) >>a sh))`. -/
def lerpLane (c : Cfg) (k sh : Nat) (a b : Int) : Int := wrapN c (a + asr ((b - a) * (k : Int)) sh)

/-- lerp: linear interpolation at the fraction k / 2^sh (R176). -/
def lerp (c : Cfg) (a b : V3) (k sh : Nat) : V3 := V3.zipWith (lerpLane c k sh) a b

/-- VADDW (R160). -/
def execVaddw (rd ra rb : RegNo) (s : State) : Result :=
  .next (s.writeVW rd (V3.zipWith (· + ·) (s.readVW ra) (s.readVW rb)))

/-- VADDN (R161). -/
def execVaddn (rd ra rb : RegNo) (s : State) : Result :=
  .next (s.writeVN rd (V3.zipWith (· + ·) (s.readVN ra) (s.readVN rb)))

/-- VSUBW (R162). -/
def execVsubw (rd ra rb : RegNo) (s : State) : Result :=
  .next (s.writeVW rd (V3.zipWith (· - ·) (s.readVW ra) (s.readVW rb)))

/-- VSUBN (R163). -/
def execVsubn (rd ra rb : RegNo) (s : State) : Result :=
  .next (s.writeVN rd (V3.zipWith (· - ·) (s.readVN ra) (s.readVN rb)))

/-- VSCLN (R164): narrow vector `ra` by narrow scalar `rb`. -/
def execVscln (rd ra rb : RegNo) (s : State) : Result :=
  .next (s.writeVN rd ((s.readVN ra).map fun v => mulN s.cfg v (s.readN rb)))

/-- VSCLWN (R165): narrow vector `ra` by wide scalar `rb`, a wide vector. -/
def execVsclwn (rd ra rb : RegNo) (s : State) : Result :=
  .next (s.writeVW rd ((s.readVN ra).map fun v => mulWN s.cfg (s.readW rb) v))

/-- VCVTNW (R166). -/
def execVcvtnw (rd ra : RegNo) (s : State) : Result :=
  .next (s.writeVW rd ((s.readVN ra).map (cvtNW s.cfg)))

/-- VCROSSW (R167). -/
def execVcrossw (rd ra rb : RegNo) (s : State) : Result :=
  .next (s.writeVW rd (cross (mulW s.cfg) (s.readVW ra) (s.readVW rb)))

/-- VCROSSN (R168). -/
def execVcrossn (rd ra rb : RegNo) (s : State) : Result :=
  .next (s.writeVN rd (cross (mulN s.cfg) (s.readVN ra) (s.readVN rb)))

/-- VLERPN (R169): `ra` is the k = 0 end. -/
def execVlerpn (rd ra rb : RegNo) (k : Byte) (sh : BitVec 4) (s : State) : Result :=
  .next (s.writeVN rd (lerp s.cfg (s.readVN ra) (s.readVN rb) k.toNat sh.toNat))

/-- VEXTW (R170): `W[rd] <- VW[ra][lane]`. -/
def execVextw (rd ra : RegNo) (lane : BitVec 2) (s : State) : Result :=
  withLane lane s fun l => s.writeW rd ((s.readVW ra).get l)

/-- VEXTN (R171): `N[rd] <- VN[ra][lane]`. -/
def execVextn (rd ra : RegNo) (lane : BitVec 2) (s : State) : Result :=
  withLane lane s fun l => s.writeN rd ((s.readVN ra).get l)

/-- VINSW (R172): `VW[rd][lane] <- W[ra]`. -/
def execVinsw (rd ra : RegNo) (lane : BitVec 2) (s : State) : Result :=
  withLane lane s fun l => s.writeVWLane rd l (s.readW ra)

/-- VINSN (R173): `VN[rd][lane] <- N[ra]`. -/
def execVinsn (rd ra : RegNo) (lane : BitVec 2) (s : State) : Result :=
  withLane lane s fun l => s.writeVNLane rd l (s.readN ra)

end Sys2Proof.Machine
end

