-- ==== Sys2Proof/Machine/Render.lean ====
section
/-! DEFINITION. The frame sequencer (47_render.md): corner rays R267, shading R261, the two strategies
R264 and R265, the commands R260, R262, R263. The loops are written in the order of R266. -/

namespace Sys2Proof.Machine

/-- The four rotated corner rays: top left, top right, bottom left, bottom right (R267). -/
structure CornerRays where
  tl : V3
  tr : V3
  bl : V3
  br : V3
deriving DecidableEq, Repr

/-- corners(M) (R267). -/
def corners (c : Cfg) (m : Mat) : CornerRays where
  tl := mvmul c ⟨wrapN c (-c.hx), c.hy, c.hz⟩ m
  tr := mvmul c ⟨c.hx, c.hy, c.hz⟩ m
  bl := mvmul c ⟨wrapN c (-c.hx), wrapN c (-c.hy), c.hz⟩ m
  br := mvmul c ⟨c.hx, wrapN c (-c.hy), c.hz⟩ m

/-- What shading a ray gives: a level, a class and, when a plane is hit, a distance (R261). -/
structure Sample where
  level : Byte
  cls : RayClass
  dist : Option Int
deriving DecidableEq, Repr

/-- shade(p, d) (R261). -/
def shade (c : Cfg) (p d : V3) : Sample :=
  match classify c d.y with
  | .ground => ⟨gtexAt c (gaddr c (groundHit c p d).1), .ground, some (groundHit c p d).2⟩
  | .dead => ⟨c.groundFlat, .dead, none⟩
  | .cloud => ⟨ctexAt c (caddr c (cloudHit c p d).1), .cloud, some (cloudHit c p d).2⟩
  | .sky => ⟨c.skyLevel, .sky, none⟩

/-- 0, step, 2*step, ..., `n` of them. -/
def strided (step : Nat) : Nat → List Nat
  | 0 => []
  | n + 1 => strided step n ++ [step * n]

/-- The view direction of the sample at column `x`, row `y`: horizontal first, then vertical (R264 steps
2 and 3, R265). -/
def viewDir (c : Cfg) (k : CornerRays) (x y : Nat) : V3 :=
  lerp c (lerp c k.tl k.tr x c.lw) (lerp c k.bl k.br x c.lw) y c.lh

/-- render_coarse: one sample for each 2x2 block (R264). -/
def renderCoarse (c : Cfg) (pos : V3) (k : CornerRays) (fb : Memory) : Memory :=
  (strided 2 (c.sw / 2)).foldl (fun fb x =>
    (strided 2 (c.sh / 2)).foldl (fun fb y =>
      setBlock c fb x y (qmask c (shade c pos (viewDir c k x y)).level)) fb) fb

/-- render_full: one sample for each pixel (R265). -/
def renderFull (c : Cfg) (pos : V3) (k : CornerRays) (fb : Memory) : Memory :=
  (strided 1 c.sw).foldl (fun fb x =>
    (strided 1 c.sh).foldl (fun fb y =>
      setpix c fb x y (fbit c (shade c pos (viewDir c k x y)).level ((x + y) % 2 == 1))) fb) fb

/-- RCORN (R260): the four corner rays go to VN[4], VN[5], VN[6], VN[7]. -/
def execRcorn (ra : RegNo) (s : State) : Result :=
  let k := corners s.cfg (s.readM ra)
  .next ((((s.writeVN 4#4 k.tl).writeVN 5#4 k.tr).writeVN 6#4 k.bl).writeVN 7#4 k.br)

/-- RSHADE (R262). -/
def execRshade (rd ra : RegNo) (s : State) : Result :=
  let r := shade s.cfg s.camPos (s.readVN ra)
  .next (((s.writeB rd r.level).setCls r.cls).setDistIf r.dist)

/-- REND (R263): the whole frame, and nothing else. -/
def execRend (s : State) : Result :=
  let k := corners s.cfg s.camRot
  .next { s with fb :=
    if s.fullRes then renderFull s.cfg s.camPos k s.fb else renderCoarse s.cfg s.camPos k s.fb }

end Sys2Proof.Machine
end

