-- ==== Sys2Proof/Machine/Scalar.lean ====
section
/-! DEFINITION. The commands of the fixed-point scalar ALU (41_scalar_alu.md R120 to R144). None reads
or writes CLS, DIST, STATUS or RCTRL, and none can stop. -/

namespace Sys2Proof.Machine

/-- LIW (R120): `W[rd] <- sext_16(imm16)`. -/
def execLiw (rd : RegNo) (imm : BitVec 16) (s : State) : Result := .next (s.writeW rd (sext16 imm))

/-- LIN (R121): `N[rd] <- sext_16(imm16)`. -/
def execLin (rd : RegNo) (imm : BitVec 16) (s : State) : Result := .next (s.writeN rd (sext16 imm))

/-- LIB (R122): `B[rd] <- imm16[7:0]`. -/
def execLib (rd : RegNo) (imm : Byte) (s : State) : Result := .next (s.writeB rd imm)

/-- ADDW (R123). -/
def execAddw (rd ra rb : RegNo) (s : State) : Result := .next (s.writeW rd (s.readW ra + s.readW rb))

/-- ADDN (R124). -/
def execAddn (rd ra rb : RegNo) (s : State) : Result := .next (s.writeN rd (s.readN ra + s.readN rb))

/-- SUBW (R125). -/
def execSubw (rd ra rb : RegNo) (s : State) : Result := .next (s.writeW rd (s.readW ra - s.readW rb))

/-- SUBN (R126). -/
def execSubn (rd ra rb : RegNo) (s : State) : Result := .next (s.writeN rd (s.readN ra - s.readN rb))

/-- NEGW (R127). -/
def execNegw (rd ra : RegNo) (s : State) : Result := .next (s.writeW rd (-s.readW ra))

/-- NEGN (R128). -/
def execNegn (rd ra : RegNo) (s : State) : Result := .next (s.writeN rd (-s.readN ra))

/-- MULW (R129). -/
def execMulw (rd ra rb : RegNo) (s : State) : Result :=
  .next (s.writeW rd (mulW s.cfg (s.readW ra) (s.readW rb)))

/-- MULN (R130). -/
def execMuln (rd ra rb : RegNo) (s : State) : Result :=
  .next (s.writeN rd (mulN s.cfg (s.readN ra) (s.readN rb)))

/-- MULWN (R131): wide `ra`, narrow `rb`. -/
def execMulwn (rd ra rb : RegNo) (s : State) : Result :=
  .next (s.writeW rd (mulWN s.cfg (s.readW ra) (s.readN rb)))

/-- DIVW (R132): with divisor 0 the destination receives an unspecified value, a free value here (U2,
assumption log 4), and nothing else changes. -/
def execDivw (rd ra rb : RegNo) (s : State) : Result :=
  if s.readW rb = 0 then .next (s.drawn.writeW rd s.unspec)
  else .next (s.writeW rd (divW s.cfg (s.readW ra) (s.readW rb)))

/-- DIVN (R133): as DIVW, on narrow scalars. -/
def execDivn (rd ra rb : RegNo) (s : State) : Result :=
  if s.readN rb = 0 then .next (s.drawn.writeN rd s.unspec)
  else .next (s.writeN rd (divN s.cfg (s.readN ra) (s.readN rb)))

/-- QDIV (R134): wide numerator `ra`, narrow denominator `rb`. -/
def execQdiv (rd ra rb : RegNo) (s : State) : Result :=
  .next (s.writeW rd (qdiv s.cfg (s.readW ra) (s.readN rb)))

/-- CVTNW (R135). -/
def execCvtnw (rd ra : RegNo) (s : State) : Result := .next (s.writeW rd (cvtNW s.cfg (s.readN ra)))

/-- CVTWN (R136). -/
def execCvtwn (rd ra : RegNo) (s : State) : Result := .next (s.writeN rd (cvtWN s.cfg (s.readW ra)))

/-- CLAMPW (R137): low bound `rb`, high bound `rc`, the minimum applied last. -/
def execClampw (rd ra rb rc : RegNo) (s : State) : Result :=
  .next (s.writeW rd (clamp (s.readW ra) (s.readW rb) (s.readW rc)))

/-- SIN (R138). -/
def execSin (rd ra : RegNo) (s : State) : Result := .next (s.writeN rd (sinOf s.cfg (s.readB ra)))

/-- COS (R139). -/
def execCos (rd ra : RegNo) (s : State) : Result := .next (s.writeN rd (cosOf s.cfg (s.readB ra)))

/-- ADDB (R142): modulo 256. -/
def execAddb (rd ra rb : RegNo) (s : State) : Result := .next (s.writeB rd (s.readB ra + s.readB rb))

/-- ADDIB (R143): modulo 256. -/
def execAddib (rd ra : RegNo) (imm : Byte) (s : State) : Result := .next (s.writeB rd (s.readB ra + imm))

/-- NEGB (R144): `(256 - B[ra]) mod 256`. -/
def execNegb (rd ra : RegNo) (s : State) : Result := .next (s.writeB rd (-s.readB ra))

end Sys2Proof.Machine
end

