-- ==== Sys2Proof/Machine/Dispatch.lean ====
section
/-! DEFINITION. One arm per command of Instr: the command's own meaning. -/

namespace Sys2Proof.Machine

/-- What a command does (30_encoding.md R98). -/
def exec (i : Instr) (s : State) : Host.Outcome State Fault Refusal :=
  match i with
  | .liw rd imm => Sys2Proof.Machine.execLiw rd imm s
  | .lin rd imm => Sys2Proof.Machine.execLin rd imm s
  | .lib rd imm => Sys2Proof.Machine.execLib rd imm s
  | .addw rd ra rb => Sys2Proof.Machine.execAddw rd ra rb s
  | .addn rd ra rb => Sys2Proof.Machine.execAddn rd ra rb s
  | .subw rd ra rb => Sys2Proof.Machine.execSubw rd ra rb s
  | .subn rd ra rb => Sys2Proof.Machine.execSubn rd ra rb s
  | .negw rd ra => Sys2Proof.Machine.execNegw rd ra s
  | .negn rd ra => Sys2Proof.Machine.execNegn rd ra s
  | .mulw rd ra rb => Sys2Proof.Machine.execMulw rd ra rb s
  | .muln rd ra rb => Sys2Proof.Machine.execMuln rd ra rb s
  | .mulwn rd ra rb => Sys2Proof.Machine.execMulwn rd ra rb s
  | .divw rd ra rb => Sys2Proof.Machine.execDivw rd ra rb s
  | .divn rd ra rb => Sys2Proof.Machine.execDivn rd ra rb s
  | .qdiv rd ra rb => Sys2Proof.Machine.execQdiv rd ra rb s
  | .cvtnw rd ra => Sys2Proof.Machine.execCvtnw rd ra s
  | .cvtwn rd ra => Sys2Proof.Machine.execCvtwn rd ra s
  | .clampw rd ra rb rc => Sys2Proof.Machine.execClampw rd ra rb rc s
  | .sin rd ra => Sys2Proof.Machine.execSin rd ra s
  | .cos rd ra => Sys2Proof.Machine.execCos rd ra s
  | .addb rd ra rb => Sys2Proof.Machine.execAddb rd ra rb s
  | .addib rd ra imm => Sys2Proof.Machine.execAddib rd ra imm s
  | .negb rd ra => Sys2Proof.Machine.execNegb rd ra s
  | .vaddw rd ra rb => Sys2Proof.Machine.execVaddw rd ra rb s
  | .vaddn rd ra rb => Sys2Proof.Machine.execVaddn rd ra rb s
  | .vsubw rd ra rb => Sys2Proof.Machine.execVsubw rd ra rb s
  | .vsubn rd ra rb => Sys2Proof.Machine.execVsubn rd ra rb s
  | .vscln rd ra rb => Sys2Proof.Machine.execVscln rd ra rb s
  | .vsclwn rd ra rb => Sys2Proof.Machine.execVsclwn rd ra rb s
  | .vcvtnw rd ra => Sys2Proof.Machine.execVcvtnw rd ra s
  | .vcrossw rd ra rb => Sys2Proof.Machine.execVcrossw rd ra rb s
  | .vcrossn rd ra rb => Sys2Proof.Machine.execVcrossn rd ra rb s
  | .vlerpn rd ra rb k sh => Sys2Proof.Machine.execVlerpn rd ra rb k sh s
  | .vextw rd ra lane => Sys2Proof.Machine.execVextw rd ra lane s
  | .vextn rd ra lane => Sys2Proof.Machine.execVextn rd ra lane s
  | .vinsw rd ra lane => Sys2Proof.Machine.execVinsw rd ra lane s
  | .vinsn rd ra lane => Sys2Proof.Machine.execVinsn rd ra lane s
  | .mident rd => Sys2Proof.Machine.execMident rd s
  | .mrotx rd ra => Sys2Proof.Machine.execMrotx rd ra s
  | .mroty rd ra => Sys2Proof.Machine.execMroty rd ra s
  | .mrotz rd ra => Sys2Proof.Machine.execMrotz rd ra s
  | .mmul rd ra rb => Sys2Proof.Machine.execMmul rd ra rb s
  | .mtrans rd ra => Sys2Proof.Machine.execMtrans rd ra s
  | .mvmul rd ra rb => Sys2Proof.Machine.execMvmul rd ra rb s
  | .mfwd rd ra => Sys2Proof.Machine.execMfwd rd ra s
  | .rclass ra => Sys2Proof.Machine.execRclass ra s
  | .rgnd rd ra rb => Sys2Proof.Machine.execRgnd rd ra rb s
  | .rcld rd ra rb => Sys2Proof.Machine.execRcld rd ra rb s
  | .texg rd ra => Sys2Proof.Machine.execTexg rd ra s
  | .texc rd ra => Sys2Proof.Machine.execTexc rd ra s
  | .dqc rd ra => Sys2Proof.Machine.execDqc rd ra s
  | .dqf rd ra par => Sys2Proof.Machine.execDqf rd ra par s
  | .fbpix ra x y => Sys2Proof.Machine.execFbpix ra x y s
  | .fbblk ra x y => Sys2Proof.Machine.execFbblk ra x y s
  | .fbst ra x page => Sys2Proof.Machine.execFbst ra x page s
  | .camrot => Sys2Proof.Machine.execCamrot s
  | .camtick mask => Sys2Proof.Machine.execCamtick mask s
  | .mcam rd => Sys2Proof.Machine.execMcam rd s
  | .mcami rd => Sys2Proof.Machine.execMcami rd s
  | .vcam rd => Sys2Proof.Machine.execVcam rd s
  | .rcorn ra => Sys2Proof.Machine.execRcorn ra s
  | .rshade rd ra => Sys2Proof.Machine.execRshade rd ra s
  | .rend => Sys2Proof.Machine.execRend s

end Sys2Proof.Machine
end

