-- ==== Sys2Proof/Machine/HostPort.lean ====
section
/-! DEFINITION. The host actions other than Issue (20_memory.md R62 to R64, 10_state.md R35, R36): reset,
register reads and writes, memory reads and writes. None sets STATUS.ILL (R36). -/

namespace Sys2Proof.Machine

/-- Lane number `l` of a vector (R24); `none` for a lane it does not have. -/
def vectorLane (l : Nat) : Option Lane := if h : l < 3 then some ⟨l, h⟩ else none

/-- Lane number `l` of a matrix as row and column, l = 3*r + c (R26). -/
def matrixLane (l : Nat) : Option (Lane × Lane) :=
  if h : l < 9 then some (⟨l / 3, by omega⟩, ⟨l % 3, by omega⟩) else none

/-- The lane of a scalar is number 0 (R63). -/
def scalarLane (l : Nat) : Option Unit := if l = 0 then some () else none

/-- The bit pattern of a vector lane, 0 for a missing lane (R63). -/
def readVectorLane (w : Nat) (v : V3) (l : Nat) : Nat :=
  match vectorLane l with
  | some l => pattern w (v.get l)
  | none => 0

/-- The bit pattern of a matrix lane, 0 for a missing lane (R63). -/
def readMatrixLane (w : Nat) (m : Mat) (l : Nat) : Nat :=
  match matrixLane l with
  | some (i, j) => pattern w (m.get i j)
  | none => 0

/-- The bit pattern of a scalar, 0 for a missing lane (R63). -/
def readScalarLane (p l : Nat) : Nat := if l = 0 then p else 0

/-- A host read of special register `i`, lane `l` (R35, R36): 0 for a missing one. -/
def State.readSpecial (s : State) (i l : Nat) : Nat :=
  match i with
  | 0 => readVectorLane s.cfg.ww s.camPos l
  | 1 => readMatrixLane s.cfg.nw s.camRot l
  | 2 => readMatrixLane s.cfg.nw s.camInv l
  | 3 => readScalarLane s.pitch.toNat l
  | 4 => readScalarLane s.roll.toNat l
  | 5 => readScalarLane s.yaw.toNat l
  | 6 => readScalarLane s.rctrl.toNat l
  | 7 => readScalarLane s.status.toNat l
  | 8 => readScalarLane s.cls.toNat l
  | 9 => readScalarLane (pattern s.cfg.ww s.dist) l
  | _ => 0

/-- A host read of general register `r` of file `f`, lane `l` (R63). -/
def State.readGeneral (s : State) (f : Nat) (r : RegNo) (l : Nat) : Nat :=
  match f with
  | 0 => readScalarLane (pattern s.cfg.ww (s.readW r)) l
  | 1 => readScalarLane (pattern s.cfg.nw (s.readN r)) l
  | 2 => readScalarLane (s.readB r).toNat l
  | 3 => readVectorLane s.cfg.ww (s.readVW r) l
  | 4 => readVectorLane s.cfg.nw (s.readVN r) l
  | 5 => readMatrixLane s.cfg.nw (s.readM r) l
  | _ => 0

/-- HostReadReg: the lane's bit pattern, 0 where there is no such lane (R63). -/
def State.hostReadReg (s : State) (f i l : Nat) : Nat :=
  if f = 6 then s.readSpecial i l
  else if i < 16 then s.readGeneral f (BitVec.ofNat 4 i) l
  else 0

/-- A host write of special register `i`, lane `l` (R35, R36): the value is cut to the lane's width;
a read-only or missing register or a missing lane is ignored. -/
def State.writeSpecial (s : State) (i l v : Nat) : State :=
  match i with
  | 0 => match vectorLane l with
    | some l => s.writeCamPosLane l v
    | none => s
  | 3 => match scalarLane l with
    | some _ => s.writeAngles (BitVec.ofNat 8 v) s.roll s.yaw
    | none => s
  | 4 => match scalarLane l with
    | some _ => s.writeAngles s.pitch (BitVec.ofNat 8 v) s.yaw
    | none => s
  | 5 => match scalarLane l with
    | some _ => s.writeAngles s.pitch s.roll (BitVec.ofNat 8 v)
    | none => s
  | 6 => match scalarLane l with
    | some _ => s.writeRctrl (BitVec.ofNat 8 v)
    | none => s
  | _ => s

/-- A host write of general register `r` of file `f`, lane `l` (R63). -/
def State.writeGeneral (s : State) (f : Nat) (r : RegNo) (l v : Nat) : State :=
  match f with
  | 0 => match scalarLane l with
    | some _ => s.writeW r v
    | none => s
  | 1 => match scalarLane l with
    | some _ => s.writeN r v
    | none => s
  | 2 => match scalarLane l with
    | some _ => s.writeB r (BitVec.ofNat 8 v)
    | none => s
  | 3 => match vectorLane l with
    | some l => s.writeVWLane r l v
    | none => s
  | 4 => match vectorLane l with
    | some l => s.writeVNLane r l v
    | none => s
  | 5 => match matrixLane l with
    | some (i, j) => s.writeMLane r i j v
    | none => s
  | _ => s

/-- HostWriteReg: stores the value cut to the lane's width; ignored where there is no such lane (R63). -/
def State.hostWriteReg (s : State) (f i l v : Nat) : State :=
  if f = 6 then s.writeSpecial i l v
  else if i < 16 then s.writeGeneral f (BitVec.ofNat 4 i) l v
  else s

/-- HostReadMem: the entry, 0 outside the space (R64). A sine entry is given as the signed integer it is
(assumption log 6). -/
def State.hostReadMem (s : State) (sp : Space) (i : Nat) : Int :=
  match sp with
  | .fb => if i < s.cfg.fbSize then ((s.readFB i).toNat : Int) else 0
  | .gtex => ((gtexAt s.cfg i).toNat : Int)
  | .ctex => ((ctexAt s.cfg i).toNat : Int)
  | .sintab => s.cfg.sintab.getD i 0
  | .recip => (recipAt s.cfg i : Int)

/-- HostWriteMem: FB only, inside FB only; ignored elsewhere (R64). -/
def State.hostWriteMem (s : State) (sp : Space) (i : Nat) (v : Byte) : State :=
  match sp with
  | .fb => if i < s.cfg.fbSize then s.writeFB i v else s
  | _ => s

/-- Reset: the spec's state becomes the reset state (R62, R300); the host's own list, the last reply and
the count of values drawn are not FXR's (assumption logs 4 to 6). -/
def State.hostReset (s : State) : State :=
  { State.resetWith s.cfg with draws := s.draws, host := s.host, readData := s.readData }

/-- The port answers a host read. -/
def State.reply (s : State) (v : Int) : State := { s with readData := some v }

end Sys2Proof.Machine
end

