-- ==== Sys2Proof/Machine/Step.lean ====
section
/-! DEFINITION. One step: one host action (20_memory.md R62 to R66, 70_reset_and_hazards.md R315). FXR has
no program counter and fetches nothing (10_state.md R34); the next command is whatever word the host
issues next, so the actions to come stand in State.host (assumption log 5). -/

namespace Sys2Proof.Machine

/-- `Issue(word)` (R65): a legal word runs its command; an illegal one sets STATUS.ILL and nothing else
(R104). -/
def issueWord (word : Word) (s : State) : Host.Outcome State Fault Refusal :=
  match decode word with
  | .ok i => exec i s
  | .error _ => .next s.takeIllegal

/-- A host action performed (R62 to R65). -/
def perform (a : HostAction) (s : State) : Host.Outcome State Fault Refusal :=
  match a with
  | .reset => .next s.hostReset
  | .readReg file idx lane => .next (s.reply (s.hostReadReg file idx lane))
  | .writeReg file idx lane value => .next (s.hostWriteReg file idx lane value)
  | .readMem space i => .next (s.reply (s.hostReadMem space i))
  | .writeMem space i byte => .next (s.hostWriteMem space i byte)
  | .issue word => issueWord word s

/-- The next host action is performed; with none to come FXR holds its state (R295, R301). -/
def step (s : State) : Host.Outcome State Fault Refusal :=
  match s.host with
  | [] => .next s
  | a :: rest => perform a { s with host := rest }

/-- `s` with the issue of a word put before the host's other actions: the next step decodes and runs
exactly it. The word has 32 bits, and every bit from `nbits` up is 0. -/
def State.withFetchWord (s : State) (nbits w : Nat) : State :=
  { s with host := .issue (BitVec.ofNat 32 (w % 2 ^ nbits)) :: s.host }

end Sys2Proof.Machine
end

