-- ==== Sys2Proof/Safety.lean ====
section
/-! DEFINITION. What the claims say of states and steps: the invariant of the machine, what an action
leaves unchanged, what it wrote, and running a list of commands. FXR has no error state to reach: no
action faults (60_exceptions.md R280), so a run is safe when it keeps the invariant. -/

namespace Sys2Proof.Safety

open Sys2Proof.Machine

/-! ### Numbers -/

/-- `v` is wrap_w(z) by its description in R9: in the range of `w` bits and congruent to `z` modulo
2^w. -/
def IsWrap (w : Nat) (z v : Int) : Prop := Fits w v ∧ (2 : Int) ^ w ∣ v - z

/-- `v` is wrapW(z) (R9). -/
def IsWrapW (c : Cfg) (z v : Int) : Prop := IsWrap c.ww z v

/-- `v` is wrapN(z) (R9). -/
def IsWrapN (c : Cfg) (z v : Int) : Prop := IsWrap c.nw z v

/-- Lane by lane (R174). -/
def EachLane (p : Int → Int → Prop) (u v : V3) : Prop := ∀ l : Lane, p (u.get l) (v.get l)

/-! ### The invariant -/

/-- Every cell of the six files and the special registers holds a value of its width (R9, R21 to R27,
R33). -/
structure LanesInRange (s : State) : Prop where
  w : ∀ r, Fits s.cfg.ww (s.readW r)
  n : ∀ r, Fits s.cfg.nw (s.readN r)
  vw : ∀ r l, Fits s.cfg.ww ((s.readVW r).get l)
  vn : ∀ r l, Fits s.cfg.nw ((s.readVN r).get l)
  m : ∀ r i j, Fits s.cfg.nw ((s.readM r).get i j)
  camPos : ∀ l, Fits s.cfg.ww (s.camPos.get l)
  camRot : ∀ i j, Fits s.cfg.nw (s.camRot.get i j)
  dist : Fits s.cfg.ww s.dist

/-- CAM_INV is the transpose of CAM_ROT, exactly (R28). -/
def InverseIsTranspose (s : State) : Prop := ∀ i j, s.camInv.get i j = s.camRot.get j i

/-- The reserved bits 7:1 of RCTRL and STATUS are 0 (R30, R31). -/
def ReservedBitsZero (s : State) : Prop := s.rctrl &&& 0xFE#8 = 0#8 ∧ s.status &&& 0xFE#8 = 0#8

/-- FB is in canonical form and lists indices below FBSIZE only (R60). -/
def FramebufferInForm (s : State) : Prop := s.fb.wf = true ∧ ∀ c ∈ s.fb, c.1 < s.cfg.fbSize

/-- The invariant of the machine. -/
structure Inv (s : State) : Prop where
  lanes : LanesInRange s
  inverse : InverseIsTranspose s
  reserved : ReservedBitsZero s
  fb : FramebufferInForm s

/-- CAM_ROT is the rotation of the angle registers (R302). -/
def RotationFollowsAngles (s : State) : Prop := s.camRot = camrot s.cfg s.pitch s.roll s.yaw

/-- A host action that may change an angle register other than by a command (R29, R302). -/
def movesAngles : HostAction → Bool
  | .reset => true
  | .writeReg file idx _ _ => file == 6 && (idx == 3 || idx == 4 || idx == 5)
  | _ => false

/-! ### What an action leaves unchanged -/

/-- The parts of the state. -/
inductive Part where
  | w
  | n
  | b
  | vw
  | vn
  | m
  | camPos
  | camRot
  | camInv
  | pitch
  | roll
  | yaw
  | rctrl
  | status
  | cls
  | dist
  | fb
  | draws
  | host
  | readData
  | cfg
deriving DecidableEq, Repr

/-- A part holds the same in both states; a register file and FB are compared through their reads. -/
def SamePart (s t : State) : Part → Prop
  | .w => ∀ q, t.readW q = s.readW q
  | .n => ∀ q, t.readN q = s.readN q
  | .b => ∀ q, t.readB q = s.readB q
  | .vw => ∀ q, t.readVW q = s.readVW q
  | .vn => ∀ q, t.readVN q = s.readVN q
  | .m => ∀ q, t.readM q = s.readM q
  | .camPos => t.camPos = s.camPos
  | .camRot => t.camRot = s.camRot
  | .camInv => t.camInv = s.camInv
  | .pitch => t.pitch = s.pitch
  | .roll => t.roll = s.roll
  | .yaw => t.yaw = s.yaw
  | .rctrl => t.rctrl = s.rctrl
  | .status => t.status = s.status
  | .cls => t.cls = s.cls
  | .dist => t.dist = s.dist
  | .fb => ∀ a, t.readFB a = s.readFB a
  | .draws => t.draws = s.draws
  | .host => t.host = s.host
  | .readData => t.readData = s.readData
  | .cfg => t.cfg = s.cfg

/-- Every part but the listed ones holds the same. -/
def SameOutside (written : List Part) (s t : State) : Prop := ∀ p, p ∉ written → SamePart s t p

/-- W[rd] holds a value with `p`; every other W register, and everything outside the W file and the
parts `also`, is unchanged. -/
def WroteW (rd : RegNo) (also : List Part) (p : Int → Prop) (s t : State) : Prop :=
  p (t.readW rd) ∧ (∀ q, q ≠ rd → t.readW q = s.readW q) ∧ SameOutside (.w :: also) s t

/-- The same of the N file. -/
def WroteN (rd : RegNo) (also : List Part) (p : Int → Prop) (s t : State) : Prop :=
  p (t.readN rd) ∧ (∀ q, q ≠ rd → t.readN q = s.readN q) ∧ SameOutside (.n :: also) s t

/-- The same of the B file. -/
def WroteB (rd : RegNo) (also : List Part) (p : Byte → Prop) (s t : State) : Prop :=
  p (t.readB rd) ∧ (∀ q, q ≠ rd → t.readB q = s.readB q) ∧ SameOutside (.b :: also) s t

/-- The same of the VW file. -/
def WroteVW (rd : RegNo) (also : List Part) (p : V3 → Prop) (s t : State) : Prop :=
  p (t.readVW rd) ∧ (∀ q, q ≠ rd → t.readVW q = s.readVW q) ∧ SameOutside (.vw :: also) s t

/-- The same of the VN file. -/
def WroteVN (rd : RegNo) (also : List Part) (p : V3 → Prop) (s t : State) : Prop :=
  p (t.readVN rd) ∧ (∀ q, q ≠ rd → t.readVN q = s.readVN q) ∧ SameOutside (.vn :: also) s t

/-- The same of the M file. -/
def WroteM (rd : RegNo) (also : List Part) (p : Mat → Prop) (s t : State) : Prop :=
  p (t.readM rd) ∧ (∀ q, q ≠ rd → t.readM q = s.readM q) ∧ SameOutside (.m :: also) s t

/-- The whole effect of an illegal word: STATUS.ILL becomes 1, the other bits of STATUS and everything
else stay (R104). -/
def OnlyIllSet (s t : State) : Prop := t.status = s.status ||| 1#8 ∧ SameOutside [.status] s t

/-! ### Pixels -/

/-- Pixel (x, y) of the framebuffer, for x < SW and y < SH (R60). -/
def pixelAt (c : Cfg) (fb : Memory) (x y : Nat) : Bool := (fb.read (y / 8 * c.sw + x)).getLsbD (y % 8)

/-! ### Runs of commands -/

/-- The commands of a list, in order; it stops where one does. -/
def runCommands : List Instr → State → Result
  | [], s => .next s
  | i :: is, s =>
    match exec i s with
    | .next t => runCommands is t
    | .fault r => .fault r
    | .refused r => .refused r

end Sys2Proof.Safety
end

