-- ==== Sys2Proof/Certificates/Slice0/Obligations.lean ====
section
/-! DEFINITION. The statements for the provers, each a proposition about the model, and the words they are
said in. Every statement about a command says with which next state it completes: what is written, by the
formula of the spec, and that everything else stays. -/

namespace Sys2Proof.Claims

open Sys2Proof.Machine Sys2Proof.Safety

/-! ### Completion -/

/-- The command completes: exec answers a next state, and `post` holds of it. -/
def Completes (i : Instr) (s : State) (post : State → Prop) : Prop := ∃ t, exec i s = .next t ∧ post t

/-- The list of commands completes: every one answers a next state, and `post` holds of the last. -/
def RunCompletes (is : List Instr) (s : State) (post : State → Prop) : Prop :=
  ∃ t, runCommands is s = .next t ∧ post t

/-- Everything but FB stays, and `post` holds of the FB that is left. -/
def WroteFB (post : State → Prop) (s t : State) : Prop := post t ∧ SameOutside [.fb] s t

/-- 1 for a set bit, 0 for a clear one. -/
def bit (b : Bool) : Nat := if b then 1 else 0

/-! ### The opcode table -/

/-- A row of spec/opcode_table.json: mnemonic, mask, match, and whether the row carries the lane check
(R99). -/
structure OpcodeRow where
  name : String
  mask : Word
  bits : Word
  lane : Bool
deriving DecidableEq, Repr

/-- A word selects the row: `(w & mask) = match`, and the value in bits 13:12 of a lane command is not 3
(R99). -/
def OpcodeRow.Selects (r : OpcodeRow) (w : Word) : Prop :=
  w &&& r.mask = r.bits ∧ (r.lane = true → w.extractLsb' 12 2 ≠ 3#2)

/-- The rows of the fixed-point scalar ALU. -/
def opcodesScalar : List OpcodeRow :=
  [⟨"LIW", 0xFF0F0000#32, 0x01000000#32, false⟩,
   ⟨"LIN", 0xFF0F0000#32, 0x02000000#32, false⟩,
   ⟨"LIB", 0xFF0FFF00#32, 0x03000000#32, false⟩,
   ⟨"ADDW", 0xFF000FFF#32, 0x04000000#32, false⟩,
   ⟨"ADDN", 0xFF000FFF#32, 0x05000000#32, false⟩,
   ⟨"SUBW", 0xFF000FFF#32, 0x06000000#32, false⟩,
   ⟨"SUBN", 0xFF000FFF#32, 0x07000000#32, false⟩,
   ⟨"NEGW", 0xFF00FFFF#32, 0x08000000#32, false⟩,
   ⟨"NEGN", 0xFF00FFFF#32, 0x09000000#32, false⟩,
   ⟨"MULW", 0xFF000FFF#32, 0x0A000000#32, false⟩,
   ⟨"MULN", 0xFF000FFF#32, 0x0B000000#32, false⟩,
   ⟨"MULWN", 0xFF000FFF#32, 0x0C000000#32, false⟩,
   ⟨"DIVW", 0xFF000FFF#32, 0x0D000000#32, false⟩,
   ⟨"DIVN", 0xFF000FFF#32, 0x0E000000#32, false⟩,
   ⟨"QDIV", 0xFF000FFF#32, 0x0F000000#32, false⟩,
   ⟨"CVTNW", 0xFF00FFFF#32, 0x10000000#32, false⟩,
   ⟨"CVTWN", 0xFF00FFFF#32, 0x11000000#32, false⟩,
   ⟨"CLAMPW", 0xFF0000FF#32, 0x12000000#32, false⟩,
   ⟨"SIN", 0xFF00FFFF#32, 0x13000000#32, false⟩,
   ⟨"COS", 0xFF00FFFF#32, 0x14000000#32, false⟩,
   ⟨"ADDB", 0xFF000FFF#32, 0x15000000#32, false⟩,
   ⟨"ADDIB", 0xFF00FF00#32, 0x16000000#32, false⟩,
   ⟨"NEGB", 0xFF00FFFF#32, 0x17000000#32, false⟩]

/-- The rows of the vector unit. -/
def opcodesVector : List OpcodeRow :=
  [⟨"VADDW", 0xFF000FFF#32, 0x20000000#32, false⟩,
   ⟨"VADDN", 0xFF000FFF#32, 0x21000000#32, false⟩,
   ⟨"VSUBW", 0xFF000FFF#32, 0x22000000#32, false⟩,
   ⟨"VSUBN", 0xFF000FFF#32, 0x23000000#32, false⟩,
   ⟨"VSCLN", 0xFF000FFF#32, 0x24000000#32, false⟩,
   ⟨"VSCLWN", 0xFF000FFF#32, 0x25000000#32, false⟩,
   ⟨"VCVTNW", 0xFF00FFFF#32, 0x26000000#32, false⟩,
   ⟨"VCROSSW", 0xFF000FFF#32, 0x27000000#32, false⟩,
   ⟨"VCROSSN", 0xFF000FFF#32, 0x28000000#32, false⟩,
   ⟨"VLERPN", 0xFF000000#32, 0x29000000#32, false⟩,
   ⟨"VEXTW", 0xFF00CFFF#32, 0x2A000000#32, true⟩,
   ⟨"VEXTN", 0xFF00CFFF#32, 0x2B000000#32, true⟩,
   ⟨"VINSW", 0xFF00CFFF#32, 0x2C000000#32, true⟩,
   ⟨"VINSN", 0xFF00CFFF#32, 0x2D000000#32, true⟩]

/-- The rows of the matrix unit. -/
def opcodesMatrix : List OpcodeRow :=
  [⟨"MIDENT", 0xFF0FFFFF#32, 0x30000000#32, false⟩,
   ⟨"MROTX", 0xFF00FFFF#32, 0x31000000#32, false⟩,
   ⟨"MROTY", 0xFF00FFFF#32, 0x32000000#32, false⟩,
   ⟨"MROTZ", 0xFF00FFFF#32, 0x33000000#32, false⟩,
   ⟨"MMUL", 0xFF000FFF#32, 0x34000000#32, false⟩,
   ⟨"MTRANS", 0xFF00FFFF#32, 0x35000000#32, false⟩,
   ⟨"MVMUL", 0xFF000FFF#32, 0x36000000#32, false⟩,
   ⟨"MFWD", 0xFF00FFFF#32, 0x37000000#32, false⟩]

/-- The rows of the ray/plane unit, the texture sampler, the quantizer and the framebuffer writer. -/
def opcodesScreen : List OpcodeRow :=
  [⟨"RCLASS", 0xFFF0FFFF#32, 0x40000000#32, false⟩,
   ⟨"RGND", 0xFF000FFF#32, 0x41000000#32, false⟩,
   ⟨"RCLD", 0xFF000FFF#32, 0x42000000#32, false⟩,
   ⟨"TEXG", 0xFF00FFFF#32, 0x50000000#32, false⟩,
   ⟨"TEXC", 0xFF00FFFF#32, 0x51000000#32, false⟩,
   ⟨"DQC", 0xFF00FFFF#32, 0x60000000#32, false⟩,
   ⟨"DQF", 0xFF00EFFF#32, 0x61000000#32, false⟩,
   ⟨"FBPIX", 0xFFF00000#32, 0x62000000#32, false⟩,
   ⟨"FBBLK", 0xFFF00000#32, 0x63000000#32, false⟩,
   ⟨"FBST", 0xFFF00000#32, 0x64000000#32, false⟩]

/-- The rows of the camera and the frame sequencer. -/
def opcodesFrame : List OpcodeRow :=
  [⟨"CAMROT", 0xFFFFFFFF#32, 0x70000000#32, false⟩,
   ⟨"CAMTICK", 0xFFFFFFF0#32, 0x71000000#32, false⟩,
   ⟨"MCAM", 0xFF0FFFFF#32, 0x72000000#32, false⟩,
   ⟨"MCAMI", 0xFF0FFFFF#32, 0x73000000#32, false⟩,
   ⟨"VCAM", 0xFF0FFFFF#32, 0x74000000#32, false⟩,
   ⟨"RCORN", 0xFFF0FFFF#32, 0x80000000#32, false⟩,
   ⟨"RSHADE", 0xFF00FFFF#32, 0x81000000#32, false⟩,
   ⟨"REND", 0xFFFFFFFF#32, 0x82000000#32, false⟩]

/-- The opcode table (R98, with the numbers of R99). -/
def opcodeTable : List OpcodeRow :=
  opcodesScalar ++ opcodesVector ++ opcodesMatrix ++ opcodesScreen ++ opcodesFrame

/-- The mnemonic of a command (R98). -/
def mnemonic : Instr → String
  | .liw _ _ => "LIW"
  | .lin _ _ => "LIN"
  | .lib _ _ => "LIB"
  | .addw _ _ _ => "ADDW"
  | .addn _ _ _ => "ADDN"
  | .subw _ _ _ => "SUBW"
  | .subn _ _ _ => "SUBN"
  | .negw _ _ => "NEGW"
  | .negn _ _ => "NEGN"
  | .mulw _ _ _ => "MULW"
  | .muln _ _ _ => "MULN"
  | .mulwn _ _ _ => "MULWN"
  | .divw _ _ _ => "DIVW"
  | .divn _ _ _ => "DIVN"
  | .qdiv _ _ _ => "QDIV"
  | .cvtnw _ _ => "CVTNW"
  | .cvtwn _ _ => "CVTWN"
  | .clampw _ _ _ _ => "CLAMPW"
  | .sin _ _ => "SIN"
  | .cos _ _ => "COS"
  | .addb _ _ _ => "ADDB"
  | .addib _ _ _ => "ADDIB"
  | .negb _ _ => "NEGB"
  | .vaddw _ _ _ => "VADDW"
  | .vaddn _ _ _ => "VADDN"
  | .vsubw _ _ _ => "VSUBW"
  | .vsubn _ _ _ => "VSUBN"
  | .vscln _ _ _ => "VSCLN"
  | .vsclwn _ _ _ => "VSCLWN"
  | .vcvtnw _ _ => "VCVTNW"
  | .vcrossw _ _ _ => "VCROSSW"
  | .vcrossn _ _ _ => "VCROSSN"
  | .vlerpn _ _ _ _ _ => "VLERPN"
  | .vextw _ _ _ => "VEXTW"
  | .vextn _ _ _ => "VEXTN"
  | .vinsw _ _ _ => "VINSW"
  | .vinsn _ _ _ => "VINSN"
  | .mident _ => "MIDENT"
  | .mrotx _ _ => "MROTX"
  | .mroty _ _ => "MROTY"
  | .mrotz _ _ => "MROTZ"
  | .mmul _ _ _ => "MMUL"
  | .mtrans _ _ => "MTRANS"
  | .mvmul _ _ _ => "MVMUL"
  | .mfwd _ _ => "MFWD"
  | .rclass _ => "RCLASS"
  | .rgnd _ _ _ => "RGND"
  | .rcld _ _ _ => "RCLD"
  | .texg _ _ => "TEXG"
  | .texc _ _ => "TEXC"
  | .dqc _ _ => "DQC"
  | .dqf _ _ _ => "DQF"
  | .fbpix _ _ _ => "FBPIX"
  | .fbblk _ _ _ => "FBBLK"
  | .fbst _ _ _ => "FBST"
  | .camrot => "CAMROT"
  | .camtick _ => "CAMTICK"
  | .mcam _ => "MCAM"
  | .mcami _ => "MCAMI"
  | .vcam _ => "VCAM"
  | .rcorn _ => "RCORN"
  | .rshade _ _ => "RSHADE"
  | .rend => "REND"

/-! ### The lanes of the host port -/

/-- A scalar has lane 0 only (R63). -/
def scalarPort (w : Nat) (v : Int) (lane : Nat) : Option (Nat × Int) := if lane = 0 then some (w, v) else none

/-- A vector has lanes 0, 1, 2 = x, y, z (R24). -/
def vectorPort (w : Nat) (v : V3) (lane : Nat) : Option (Nat × Int) :=
  if lane < 3 then some (w, v.get (Fin.ofNat 3 lane)) else none

/-- A matrix has lanes 0 to 8; lane 3*r + c is row r, column c (R26). -/
def matrixPort (w : Nat) (m : Mat) (lane : Nat) : Option (Nat × Int) :=
  if lane < 9 then some (w, m.get (Fin.ofNat 3 (lane / 3)) (Fin.ofNat 3 (lane % 3))) else none

/-- A lane of special register `idx` (the table of R35). -/
def specialPort (s : State) (idx lane : Nat) : Option (Nat × Int) :=
  match idx with
  | 0 => vectorPort s.cfg.ww s.camPos lane
  | 1 => matrixPort s.cfg.nw s.camRot lane
  | 2 => matrixPort s.cfg.nw s.camInv lane
  | 3 => scalarPort 8 s.pitch.toNat lane
  | 4 => scalarPort 8 s.roll.toNat lane
  | 5 => scalarPort 8 s.yaw.toNat lane
  | 6 => scalarPort 8 s.rctrl.toNat lane
  | 7 => scalarPort 8 s.status.toNat lane
  | 8 => scalarPort 2 s.cls.toNat lane
  | 9 => scalarPort s.cfg.ww s.dist lane
  | _ => none

/-- A lane of register `r` of general file `file` (R63). -/
def generalPort (s : State) (file : Nat) (r : RegNo) (lane : Nat) : Option (Nat × Int) :=
  match file with
  | 0 => scalarPort s.cfg.ww (s.readW r) lane
  | 1 => scalarPort s.cfg.nw (s.readN r) lane
  | 2 => scalarPort 8 (s.readB r).toNat lane
  | 3 => vectorPort s.cfg.ww (s.readVW r) lane
  | 4 => vectorPort s.cfg.nw (s.readVN r) lane
  | 5 => matrixPort s.cfg.nw (s.readM r) lane
  | _ => none

/-- The lane that (file, idx, lane) names: its width and the value it holds; none where there is no such
lane (R35, R63). -/
def portLane (s : State) (file idx lane : Nat) : Option (Nat × Int) :=
  if file = 6 then specialPort s idx lane
  else if idx < 16 then generalPort s file (BitVec.ofNat 4 idx) lane
  else none

/-- The host may write there: any general register, and CAM_POS, PITCH, ROLL, YAW, RCTRL (R35). -/
def hostWritable (file idx : Nat) : Bool :=
  file != 6 || idx == 0 || idx == 3 || idx == 4 || idx == 5 || idx == 6

/-- The part of the state that (file, idx) names (R35, R63). -/
def portPart (file idx : Nat) : Part :=
  match file with
  | 0 => .w
  | 1 => .n
  | 2 => .b
  | 3 => .vw
  | 4 => .vn
  | 5 => .m
  | _ =>
    match idx with
    | 0 => .camPos
    | 3 => .pitch
    | 4 => .roll
    | 5 => .yaw
    | _ => .rctrl

/-! ### The rotation of the camera -/

/-- EZ(roll) . EX(-pitch) . EY(-yaw), evaluated left to right (R241). -/
def cameraMatrix (c : Cfg) (pitch roll yaw : Byte) : Mat :=
  mmul c (mmul c (rotZ c roll) (rotX c (-pitch))) (rotY c (-yaw))

/-! ### The frame -/

/-- The direction of the sample at column `x`, row `y`: along the top edge and along the bottom edge at the
fraction x / SW, then between the two at the fraction y / SH (R264 steps 2 and 3). -/
def direction (c : Cfg) (rot : Mat) (x y : Nat) : V3 :=
  lerp c (lerp c (corners c rot).tl (corners c rot).tr x c.lw)
    (lerp c (corners c rot).bl (corners c rot).br x c.lw) y c.lh

/-- What pixel (x, y) of a frame is: in the coarse strategy the bit of its place in the 2x2 block whose
top-left pixel is sampled (R264), in the full one the bit of its own sample and parity (R265). -/
def framePixel (c : Cfg) (pos : V3) (rot : Mat) (full : Bool) (x y : Nat) : Bool :=
  if full then fbit c (shade c pos (direction c rot x y)).level ((x + y) % 2 == 1)
  else qbit c (shade c pos (direction c rot (x / 2 * 2) (y / 2 * 2))).level (Fin.ofNat 2 x) (Fin.ofNat 2 y)

/-- The commands of one column of the loop of R269: the two edge directions, then `rows`. -/
def loopColumn (c : Cfg) (x : Nat) (rows : List Instr) : List Instr :=
  [.vlerpn 8 4 5 (BitVec.ofNat 8 x) (BitVec.ofNat 4 c.lw),
   .vlerpn 9 6 7 (BitVec.ofNat 8 x) (BitVec.ofNat 4 c.lw)] ++ rows

/-- The sample of the loop of R269 at a row: the direction, and its level in B0. -/
def loopSample (c : Cfg) (y : Nat) : List Instr :=
  [.vlerpn 10 8 9 (BitVec.ofNat 8 y) (BitVec.ofNat 4 c.lh), .rshade 0 10]

/-- The host loop of R269 with the three commands before it, coarse strategy. -/
def coarseLoop (c : Cfg) : List Instr :=
  [.mcam 0, .rcorn 0, .vcam 0] ++
  (List.range (c.sw / 2)).flatMap fun i => loopColumn c (2 * i) <|
    (List.range (c.sh / 2)).flatMap fun j =>
      loopSample c (2 * j) ++ [.dqc 1 0, .fbblk 1 (BitVec.ofNat 8 (2 * i)) (BitVec.ofNat 8 (2 * j))]

/-- The host loop of R269, full-resolution strategy: stride 1, DQF and FBPIX. -/
def fullLoop (c : Cfg) : List Instr :=
  [.mcam 0, .rcorn 0, .vcam 0] ++
  (List.range c.sw).flatMap fun x => loopColumn c x <|
    (List.range c.sh).flatMap fun y =>
      loopSample c y ++ [.dqf 1 0 (BitVec.ofNat 1 (x + y)), .fbpix 1 (BitVec.ofNat 8 x) (BitVec.ofNat 8 y)]

/-- Steps 3 to 6 of a tick by primitive commands, with the new angles in B0 (pitch), B1 (roll) and B2 (yaw)
and the altitude bounds in W1 and W2; the results are M3, M4 and VW0 (R249). -/
def tickByPrimitives : List Instr :=
  [.negb 3 0, .negb 4 2, .mrotz 0 1, .mrotx 1 3, .mroty 2 4, .mmul 3 0 1, .mmul 3 3 2, .mtrans 4 3,
   .mfwd 0 3, .vcvtnw 1 0, .vcam 0, .vaddw 0 0 1, .vextw 0 0 1, .clampw 0 0 1 2, .vinsw 0 0 1]

end Sys2Proof.Claims

open Sys2Proof Sys2Proof.Machine Sys2Proof.Safety Sys2Proof.Claims

/-! ### Encoding -/

/-- Decoding the word of a command gives the command back, with every operand at every value its field
admits (R90 to R95, R98). -/
def Obligations.DecodeOfEncode : Prop := ∀ i : Instr, i.wellFormed = true → decode (encode i) = .ok i

/-- A word that decodes is the word of the command it decodes to, and that command is well formed: each
command has one word (R98, R105). -/
def Obligations.EncodeOfDecode : Prop :=
  ∀ (w : Word) (i : Instr), decode w = .ok i → i.wellFormed = true ∧ encode i = w

/-- A word decodes exactly when it selects a row of the opcode table, it selects at most one, and the command
is the row's (R99, R105). -/
def Obligations.LegalWordsFollowTheTable : Prop :=
  (∀ w : Word, (∃ i, decode w = .ok i) ↔ ∃ r ∈ opcodeTable, r.Selects w) ∧
  (∀ w : Word, ∀ r ∈ opcodeTable, ∀ r' ∈ opcodeTable, r.Selects w → r'.Selects w → r = r') ∧
  (∀ (w : Word) (i : Instr), decode w = .ok i → ∃ r ∈ opcodeTable, r.Selects w ∧ r.name = mnemonic i)

/-- The worked encodings of R99 decode to the commands they stand for. -/
def Obligations.WorkedEncodings : Prop :=
  decode 0x0A312000#32 = .ok (.mulw 3 1 2) ∧ decode 0x0100FFFE#32 = .ok (.liw 0 (-2)) ∧
  decode 0x29845740#32 = .ok (.vlerpn 8 4 5 64 7) ∧ decode 0x6302200A#32 = .ok (.fbblk 2 10 32) ∧
  decode 0x71000006#32 = .ok (.camtick 6) ∧ decode 0x82000000#32 = .ok .rend

/-- Issuing a word that selects no row sets STATUS.ILL and changes nothing else; the bit then stays until a
reset; the all-zero and the all-ones word are such words (R104). That the step takes the action off the list of
actions is the model's choice (assumption log 5). -/
def Obligations.IllegalWordOnlySetsIll : Prop :=
  (∀ (w : Word) (s : State) (rest : List HostAction),
    (∀ r ∈ opcodeTable, ¬ r.Selects w) → s.host = .issue w :: rest →
    ∃ t, step s = .next t ∧ t.status = s.status ||| 1#8 ∧ t.host = rest ∧
      SameOutside [.status, .host] s t) ∧
  (∀ s t : State, s.ill = true → step s = .next t → t.ill = true ∨ ∃ rest, s.host = .reset :: rest) ∧
  (∀ r ∈ opcodeTable, ¬ r.Selects 0x00000000#32 ∧ ¬ r.Selects 0xFFFFFFFF#32)

/-! ### Steps -/

/-- A step performs the host's next action: an issued word that decodes runs its command, with the action
taken off the list; one that does not decode has the effect of an illegal word; with no action to come the
state holds. In particular the word placed by withFetchWord is the one the next step runs (R65, R104, R295).
The list of actions is the model's (assumption log 5). The four terms with lane field 3, which no word decodes to,
have the effect of an illegal word: the model's choice (assumption log 8). -/
def Obligations.StepPerformsTheNextAction : Prop :=
  (∀ (s : State) (w : Word) (i : Instr) (rest : List HostAction),
    s.host = .issue w :: rest → decode w = .ok i → step s = exec i { s with host := rest }) ∧
  (∀ (s : State) (w : Word) (e : DecodeError) (rest : List HostAction),
    s.host = .issue w :: rest → decode w = .error e →
    ∃ t, step s = .next t ∧ OnlyIllSet { s with host := rest } t) ∧
  (∀ s : State, s.host = [] → step s = .next s) ∧
  (∀ (s : State) (i : Instr), i.wellFormed = true →
    step (s.withFetchWord 32 (encode i).toNat) = exec i s) ∧
  (∀ (rd ra : RegNo) (s : State),
    Completes (.vextw rd ra 3#2) s (OnlyIllSet s) ∧ Completes (.vextn rd ra 3#2) s (OnlyIllSet s) ∧
    Completes (.vinsw rd ra 3#2) s (OnlyIllSet s) ∧ Completes (.vinsn rd ra 3#2) s (OnlyIllSet s))

/-- Every step of every state completes (R280), leaves the configuration (R5) and takes one action off the list.
The list of actions, and that a step takes one off it, is the model's choice (assumption log 5). -/
def Obligations.EveryStepCompletes : Prop :=
  ∀ s : State, ∃ t, step s = .next t ∧ t.cfg = s.cfg ∧ t.host = s.host.tail

/-- Every step keeps the invariant: every lane in the range of its width, CAM_INV the transpose of CAM_ROT,
the reserved bits of RCTRL and STATUS zero, FB canonical and inside FBSIZE (R9, R28, R30, R31, R60). -/
def Obligations.StepKeepsInvariant : Prop := ∀ s t : State, Inv s → step s = .next t → Inv t

/-- The reset state of every configuration meets the invariant. The zeros of the general registers and of FB
are the model's choice (assumption logs 2 and 3); any value of the width would do. -/
def Obligations.ResetMeetsInvariant : Prop := (∀ c : Cfg, Inv (State.resetWith c)) ∧ Inv State.reset

/-- The host action Reset, performed in any state, leaves the values of the table of R40 in the special
registers and the configuration as it was; so do the reset state of every configuration and State.reset. Of the
general registers and of FB nothing is said (R5, R40, R62, R300). That State.reset holds CFG_REF, and so its
INIT_POS, is the model's choice (assumption log 1); that the action leaves the rest of the list of actions is the
model's too (assumption log 5). -/
def Obligations.ResetValues : Prop :=
  let IsReset (c : Cfg) (t : State) : Prop :=
    t.cfg = c ∧ t.camPos = c.initPos ∧
    (∀ i j : Lane, t.camRot.get i j = if i = j then 2 ^ c.nf else 0) ∧
    (∀ i j : Lane, t.camInv.get i j = if i = j then 2 ^ c.nf else 0) ∧
    t.pitch = 0#8 ∧ t.roll = 0#8 ∧ t.yaw = 0#8 ∧ t.rctrl = 0#8 ∧ t.status = 0#8 ∧ t.cls = 0#2 ∧ t.dist = 0
  (∀ (s : State) (rest : List HostAction), s.host = .reset :: rest →
    ∃ t, step s = .next t ∧ t.host = rest ∧ IsReset s.cfg t) ∧
  (∀ c : Cfg, IsReset c (State.resetWith c)) ∧ IsReset Cfg.ref State.reset

/-- The register actions of the host port: a read answers the bit pattern of the lane, 0 for a missing one,
and changes nothing; a write of a writable lane stores the value cut to the lane's width, RCTRL keeping bit 0
only, and changes no other lane; any other write changes nothing (R36, R63). That the step takes the action off
the list of actions, and the field that holds the answer of a read, are the model's choices (assumption logs 5
and 6). -/
def Obligations.HostRegisterPort : Prop :=
  (∀ (s : State) (file idx lane : Nat),
    match portLane s file idx lane with
    | none => s.hostReadReg file idx lane = 0
    | some (w, v) => s.hostReadReg file idx lane < 2 ^ w ∧ (2 : Int) ^ w ∣ s.hostReadReg file idx lane - v) ∧
  (∀ (s : State) (file idx lane : Nat) (rest : List HostAction), s.host = .readReg file idx lane :: rest →
    ∃ t, step s = .next t ∧ t.readData = some (s.hostReadReg file idx lane : Int) ∧ t.host = rest ∧
      SameOutside [.readData, .host] s t) ∧
  (∀ (s : State) (file idx lane value : Nat) (rest : List HostAction),
    s.host = .writeReg file idx lane value :: rest →
    ∃ t, step s = .next t ∧ t.host = rest ∧
      match portLane s file idx lane with
      | none => SameOutside [.host] s t
      | some (w, _) =>
        if hostWritable file idx then
          SameOutside [portPart file idx, .host] s t ∧
          ∀ file' idx' lane', t.hostReadReg file' idx' lane'
            = if file' = file ∧ idx' = idx ∧ lane' = lane then
                (if file = 6 ∧ idx = 6 then value % 2 else value % 2 ^ w)
              else s.hostReadReg file' idx' lane'
        else SameOutside [.host] s t)

/-- The memory actions of the host port: a read answers the entry, 0 outside the space, and changes nothing;
a write stores one byte of FB, inside FB, and is ignored elsewhere (R64). That the step takes the action off the
list of actions, and the field that holds the answer of a read, are the model's choices (assumption logs 5 and 6). -/
def Obligations.HostMemoryPort : Prop :=
  (∀ (s : State) (space : Space) (i : Nat) (rest : List HostAction), s.host = .readMem space i :: rest →
    ∃ t, step s = .next t ∧ t.host = rest ∧ SameOutside [.readData, .host] s t ∧
      t.readData = some (match space with
        | .fb => if i < s.cfg.fbSize then ((s.readFB i).toNat : Int) else 0
        | .gtex => if h : i < s.cfg.gtex.length then (s.cfg.gtex[i].toNat : Int) else 0
        | .ctex => if h : i < s.cfg.ctex.length then (s.cfg.ctex[i].toNat : Int) else 0
        | .sintab => if h : i < s.cfg.sintab.length then s.cfg.sintab[i] else 0
        | .recip => if h : i < s.cfg.recip.length then (s.cfg.recip[i] : Int) else 0)) ∧
  (∀ (s : State) (space : Space) (i : Nat) (byte : Byte) (rest : List HostAction),
    s.host = .writeMem space i byte :: rest →
    ∃ t, step s = .next t ∧ t.host = rest ∧
      if space = .fb ∧ i < s.cfg.fbSize then
        t.readFB i = byte ∧ (∀ a, a ≠ i → t.readFB a = s.readFB a) ∧ SameOutside [.fb, .host] s t
      else SameOutside [.host] s t)

/-- After CAMROT and after CAMTICK the camera rotation is that of the angle registers, and every step other
than a host write to an angle or a reset keeps it so; the reset state is so when SINTAB[0] = 0 and
SINTAB[64] = ONE_N (R302). -/
def Obligations.RotationFollowsTheAngles : Prop :=
  (∀ s t : State, exec .camrot s = .next t → RotationFollowsAngles t) ∧
  (∀ (s t : State) (mask : BitVec 4), exec (.camtick mask) s = .next t → RotationFollowsAngles t) ∧
  (∀ s t : State, RotationFollowsAngles s →
    (∀ (a : HostAction) (rest : List HostAction), s.host = a :: rest → movesAngles a = false) →
    step s = .next t → RotationFollowsAngles t) ∧
  (∀ c : Cfg, c.sintab.getD 0 0 = 0 → c.sintab.getD 64 0 = c.oneN → RotationFollowsAngles (State.resetWith c))

/-- STATUS changes by a reset, which clears it, and by an illegal word, which sets ILL; by no other step, a
host write among them. Its bits 7:1 stay 0 (R31). -/
def Obligations.StatusIllIsSticky : Prop :=
  ∀ s t : State, step s = .next t →
    (∀ rest, s.host = .reset :: rest → t.status = 0#8) ∧
    (∀ w e rest, s.host = .issue w :: rest → decode w = .error e → t.status = s.status ||| 1#8) ∧
    ((∀ rest, s.host ≠ .reset :: rest) → (∀ w e rest, s.host = .issue w :: rest → decode w ≠ .error e) →
      t.status = s.status) ∧
    (s.status &&& 0xFE#8 = 0#8 → t.status &&& 0xFE#8 = 0#8)

/-- Which commands write which special register, and which store to FB: the column "written by commands" of
R35, and R60. No command writes RCTRL, and no command of the table writes STATUS. -/
def Obligations.WritersOfSpecialRegisters : Prop :=
  ∀ (i : Instr) (s t : State), i.wellFormed = true → exec i s = .next t →
    (t.camPos ≠ s.camPos → ∃ mask, i = .camtick mask) ∧
    (t.camRot ≠ s.camRot ∨ t.camInv ≠ s.camInv → i = .camrot ∨ ∃ mask, i = .camtick mask) ∧
    (t.pitch ≠ s.pitch ∨ t.roll ≠ s.roll ∨ t.yaw ≠ s.yaw → ∃ mask, i = .camtick mask) ∧
    t.rctrl = s.rctrl ∧ t.status = s.status ∧
    (t.cls ≠ s.cls → (∃ ra, i = .rclass ra) ∨ ∃ rd ra, i = .rshade rd ra) ∧
    (t.dist ≠ s.dist →
      (∃ rd ra rb, i = .rgnd rd ra rb) ∨ (∃ rd ra rb, i = .rcld rd ra rb) ∨ ∃ rd ra, i = .rshade rd ra) ∧
    ((∃ a, t.readFB a ≠ s.readFB a) →
      (∃ ra x y, i = .fbpix ra x y) ∨ (∃ ra x y, i = .fbblk ra x y) ∨ (∃ ra x y, i = .fbst ra x y) ∨ i = .rend)

/-! ### Arithmetic -/

/-- wrap is the unique number in range congruent to its argument, a number in range is its own wrap, and the
wrap of a bit pattern is its signed reading (R9). -/
def Obligations.WrapIsTheUniqueNumberInRange : Prop :=
  (∀ (w : Nat) (z v : Int), 1 ≤ w → (IsWrap w z v ↔ v = wrap w z)) ∧
  (∀ (w : Nat) (z : Int), 1 ≤ w → Fits w z → wrap w z = z) ∧
  (∀ w p : Nat, 1 ≤ w → p < 2 ^ w →
    wrap w p = if p.testBit (w - 1) then (p : Int) - 2 ^ w else (p : Int)) ∧
  (∀ (c : Cfg) (z : Int), wrapW c z = wrap c.ww z ∧ wrapN c z = wrap c.nw z)

/-- The scalar functions that the composite commands are built of: multiply (R145), exact divide (R146),
QuickDivide (R147), sine and cosine (R148), width conversion (R149). -/
def Obligations.ScalarFunctions : Prop :=
  ∀ c : Cfg,
    (∀ a b : Int,
      IsWrapW c (a * b / 2 ^ c.wf) (mulW c a b) ∧ IsWrapN c (a * b / 2 ^ c.nf) (mulN c a b) ∧
      IsWrapW c (a * b / 2 ^ c.nf) (mulWN c a b) ∧
      (b ≠ 0 → IsWrapW c (Int.tdiv (a * 2 ^ c.wf) b) (divW c a b) ∧
        IsWrapN c (Int.tdiv (a * 2 ^ c.nf) b) (divN c a b))) ∧
    (∀ n d : Int, ∃ k : Nat, ∃ h : k < c.recip.length,
      k + c.qdLo = min (max (d.natAbs / 2 ^ c.qdIshift) c.qdLo) c.qdHi ∧
      IsWrapW c (if d < 0 then -(n * (c.recip[k] : Int) / 2 ^ c.qdShift)
        else n * (c.recip[k] : Int) / 2 ^ c.qdShift) (qdiv c n d)) ∧
    (∀ a : Byte, ∃ h : a.toNat < c.sintab.length, ∃ h' : (a.toNat + 64) % 256 < c.sintab.length,
      sinOf c a = c.sintab[a.toNat] ∧ cosOf c a = c.sintab[(a.toNat + 64) % 256]) ∧
    (∀ v : Int,
      IsWrapW c (if c.nf ≤ c.wf then v * 2 ^ (c.wf - c.nf) else v / 2 ^ (c.nf - c.wf)) (cvtNW c v) ∧
      IsWrapN c (if c.nf ≤ c.wf then v / 2 ^ (c.wf - c.nf) else v * 2 ^ (c.nf - c.wf)) (cvtWN c v))

/-- The vector and matrix functions that the composite commands are built of: interpolation (R176), the
elementary rotations (R188), product, transform and transpose (R189). -/
def Obligations.VectorAndMatrixFunctions : Prop :=
  ∀ c : Cfg,
    (∀ (a b : V3) (k sh : Nat) (l : Lane),
      IsWrapN c (a.get l + (b.get l - a.get l) * k / 2 ^ sh) ((lerp c a b k sh).get l)) ∧
    (∀ t : Byte,
      rotX c t = ⟨⟨2 ^ c.nf, 0, 0⟩, ⟨0, cosOf c t, sinOf c t⟩, ⟨0, wrapN c (-sinOf c t), cosOf c t⟩⟩ ∧
      rotY c t = ⟨⟨cosOf c t, 0, wrapN c (-sinOf c t)⟩, ⟨0, 2 ^ c.nf, 0⟩, ⟨sinOf c t, 0, cosOf c t⟩⟩ ∧
      rotZ c t = ⟨⟨cosOf c t, sinOf c t, 0⟩, ⟨wrapN c (-sinOf c t), cosOf c t, 0⟩, ⟨0, 0, 2 ^ c.nf⟩⟩) ∧
    (∀ (a b : Mat) (i j : Lane), IsWrapN c
      (a.get i 0 * b.get 0 j / 2 ^ c.nf + a.get i 1 * b.get 1 j / 2 ^ c.nf + a.get i 2 * b.get 2 j / 2 ^ c.nf)
      ((mmul c a b).get i j)) ∧
    (∀ (v : V3) (m : Mat) (j : Lane), IsWrapN c
      (v.x * m.get 0 j / 2 ^ c.nf + v.y * m.get 1 j / 2 ^ c.nf + v.z * m.get 2 j / 2 ^ c.nf)
      ((mvmul c v m).get j)) ∧
    (∀ (m : Mat) (i j : Lane), (mtrans m).get i j = m.get j i)

/-- LIW, LIN and LIB load their immediate, sign-extended and wrapped in the first two (R120, R121, R122). -/
def Obligations.LoadImmediates : Prop :=
  (∀ (rd : RegNo) (imm : BitVec 16) (s : State),
    decode (fmtI 0x01#8 rd 0#4 imm) = .ok (.liw rd imm) ∧
    Completes (.liw rd imm) s (WroteW rd [] (IsWrapW s.cfg imm.toInt) s)) ∧
  (∀ (rd : RegNo) (imm : BitVec 16) (s : State),
    decode (fmtI 0x02#8 rd 0#4 imm) = .ok (.lin rd imm) ∧
    Completes (.lin rd imm) s (WroteN rd [] (IsWrapN s.cfg imm.toInt) s)) ∧
  (∀ (rd : RegNo) (imm : Byte) (s : State),
    decode (fmtI 0x03#8 rd 0#4 (0#8 ++ imm)) = .ok (.lib rd imm) ∧
    Completes (.lib rd imm) s (WroteB rd [] (fun v => v = imm) s))

/-- ADDW, SUBW and NEGW: the wrapped sum, difference and negation (R123, R125, R127). -/
def Obligations.WideAddSubtractNegate : Prop :=
  (∀ (rd ra rb : RegNo) (s : State),
    decode (fmtR 0x04#8 rd ra rb 0#4) = .ok (.addw rd ra rb) ∧
    Completes (.addw rd ra rb) s (WroteW rd [] (IsWrapW s.cfg (s.readW ra + s.readW rb)) s)) ∧
  (∀ (rd ra rb : RegNo) (s : State),
    decode (fmtR 0x06#8 rd ra rb 0#4) = .ok (.subw rd ra rb) ∧
    Completes (.subw rd ra rb) s (WroteW rd [] (IsWrapW s.cfg (s.readW ra - s.readW rb)) s)) ∧
  (∀ (rd ra : RegNo) (s : State),
    decode (fmtR 0x08#8 rd ra 0#4 0#4) = .ok (.negw rd ra) ∧
    Completes (.negw rd ra) s (WroteW rd [] (IsWrapW s.cfg (-s.readW ra)) s))

/-- ADDN, SUBN and NEGN: the same on narrow scalars (R124, R126, R128). -/
def Obligations.NarrowAddSubtractNegate : Prop :=
  (∀ (rd ra rb : RegNo) (s : State),
    decode (fmtR 0x05#8 rd ra rb 0#4) = .ok (.addn rd ra rb) ∧
    Completes (.addn rd ra rb) s (WroteN rd [] (IsWrapN s.cfg (s.readN ra + s.readN rb)) s)) ∧
  (∀ (rd ra rb : RegNo) (s : State),
    decode (fmtR 0x07#8 rd ra rb 0#4) = .ok (.subn rd ra rb) ∧
    Completes (.subn rd ra rb) s (WroteN rd [] (IsWrapN s.cfg (s.readN ra - s.readN rb)) s)) ∧
  (∀ (rd ra : RegNo) (s : State),
    decode (fmtR 0x09#8 rd ra 0#4 0#4) = .ok (.negn rd ra) ∧
    Completes (.negn rd ra) s (WroteN rd [] (IsWrapN s.cfg (-s.readN ra)) s))

/-- MULW, MULN and MULWN: the exact product, floor-shifted by WF or NF, wrapped (R129, R130, R131, R145). -/
def Obligations.Multiplies : Prop :=
  (∀ (rd ra rb : RegNo) (s : State),
    decode (fmtR 0x0A#8 rd ra rb 0#4) = .ok (.mulw rd ra rb) ∧
    Completes (.mulw rd ra rb) s
      (WroteW rd [] (IsWrapW s.cfg (s.readW ra * s.readW rb / 2 ^ s.cfg.wf)) s)) ∧
  (∀ (rd ra rb : RegNo) (s : State),
    decode (fmtR 0x0B#8 rd ra rb 0#4) = .ok (.muln rd ra rb) ∧
    Completes (.muln rd ra rb) s
      (WroteN rd [] (IsWrapN s.cfg (s.readN ra * s.readN rb / 2 ^ s.cfg.nf)) s)) ∧
  (∀ (rd ra rb : RegNo) (s : State),
    decode (fmtR 0x0C#8 rd ra rb 0#4) = .ok (.mulwn rd ra rb) ∧
    Completes (.mulwn rd ra rb) s
      (WroteW rd [] (IsWrapW s.cfg (s.readW ra * s.readN rb / 2 ^ s.cfg.nf)) s))

/-- DIVW and DIVN: the pre-shifted quotient truncated toward zero and wrapped; with divisor 0 some value of
the width, nothing else of FXR changing (R132, R133, R146). Of that value only the width is said; `draws` is the
model's own count, no state of FXR (assumption log 4). -/
def Obligations.Divides : Prop :=
  (∀ (rd ra rb : RegNo) (s : State),
    decode (fmtR 0x0D#8 rd ra rb 0#4) = .ok (.divw rd ra rb) ∧
    (s.readW rb ≠ 0 → Completes (.divw rd ra rb) s
      (WroteW rd [] (IsWrapW s.cfg (Int.tdiv (s.readW ra * 2 ^ s.cfg.wf) (s.readW rb))) s)) ∧
    (s.readW rb = 0 → Completes (.divw rd ra rb) s (WroteW rd [.draws] (Fits s.cfg.ww) s))) ∧
  (∀ (rd ra rb : RegNo) (s : State),
    decode (fmtR 0x0E#8 rd ra rb 0#4) = .ok (.divn rd ra rb) ∧
    (s.readN rb ≠ 0 → Completes (.divn rd ra rb) s
      (WroteN rd [] (IsWrapN s.cfg (Int.tdiv (s.readN ra * 2 ^ s.cfg.nf) (s.readN rb))) s)) ∧
    (s.readN rb = 0 → Completes (.divn rd ra rb) s (WroteN rd [.draws] (Fits s.cfg.nw) s)))

/-- QDIV: the numerator times the table entry of the clamped, pre-shifted magnitude of the denominator,
floor-shifted, then negated for a negative denominator, then wrapped; a zero denominator reads the first entry
(R134, R147). -/
def Obligations.QuickDivide : Prop :=
  ∀ (rd ra rb : RegNo) (s : State),
    decode (fmtR 0x0F#8 rd ra rb 0#4) = .ok (.qdiv rd ra rb) ∧
    ∃ k : Nat, ∃ h : k < s.cfg.recip.length,
      k + s.cfg.qdLo = min (max ((s.readN rb).natAbs / 2 ^ s.cfg.qdIshift) s.cfg.qdLo) s.cfg.qdHi ∧
      (s.readN rb = 0 → k = 0) ∧
      Completes (.qdiv rd ra rb) s (WroteW rd [] (IsWrapW s.cfg
        (if s.readN rb < 0 then -(s.readW ra * (s.cfg.recip[k] : Int) / 2 ^ s.cfg.qdShift)
          else s.readW ra * (s.cfg.recip[k] : Int) / 2 ^ s.cfg.qdShift)) s)

/-- CVTNW and CVTWN: the value kept, the scale changed; a right shift floors, a left shift may wrap (R135,
R136, R149). -/
def Obligations.WidthConversions : Prop :=
  (∀ (rd ra : RegNo) (s : State),
    decode (fmtR 0x10#8 rd ra 0#4 0#4) = .ok (.cvtnw rd ra) ∧
    Completes (.cvtnw rd ra) s (WroteW rd [] (IsWrapW s.cfg
      (if s.cfg.nf ≤ s.cfg.wf then s.readN ra * 2 ^ (s.cfg.wf - s.cfg.nf)
        else s.readN ra / 2 ^ (s.cfg.nf - s.cfg.wf))) s)) ∧
  (∀ (rd ra : RegNo) (s : State),
    decode (fmtR 0x11#8 rd ra 0#4 0#4) = .ok (.cvtwn rd ra) ∧
    Completes (.cvtwn rd ra) s (WroteN rd [] (IsWrapN s.cfg
      (if s.cfg.nf ≤ s.cfg.wf then s.readW ra / 2 ^ (s.cfg.wf - s.cfg.nf)
        else s.readW ra * 2 ^ (s.cfg.nf - s.cfg.wf))) s))

/-- CLAMPW: the maximum with the low bound, then the minimum with the high bound, which wins when the bounds
cross; with all three operands in range the result is not changed by the write (R137). -/
def Obligations.ClampWide : Prop :=
  ∀ (rd ra rb rc : RegNo) (s : State),
    decode (fmtR 0x12#8 rd ra rb rc) = .ok (.clampw rd ra rb rc) ∧
    Completes (.clampw rd ra rb rc) s (WroteW rd []
      (fun v => IsWrapW s.cfg (min (max (s.readW ra) (s.readW rb)) (s.readW rc)) v ∧
        (LanesInRange s → v = min (max (s.readW ra) (s.readW rb)) (s.readW rc))) s)

/-- SIN and COS: the table entry of the angle, and of the angle a quarter turn on, modulo 256 (R138, R139,
R148). -/
def Obligations.SineAndCosine : Prop :=
  (∀ (rd ra : RegNo) (s : State),
    decode (fmtR 0x13#8 rd ra 0#4 0#4) = .ok (.sin rd ra) ∧
    ∃ h : (s.readB ra).toNat < s.cfg.sintab.length,
      Completes (.sin rd ra) s (WroteN rd [] (fun v => v = s.cfg.sintab[(s.readB ra).toNat]) s)) ∧
  (∀ (rd ra : RegNo) (s : State),
    decode (fmtR 0x14#8 rd ra 0#4 0#4) = .ok (.cos rd ra) ∧
    ∃ h : ((s.readB ra).toNat + 64) % 256 < s.cfg.sintab.length,
      Completes (.cos rd ra) s
        (WroteN rd [] (fun v => v = s.cfg.sintab[((s.readB ra).toNat + 64) % 256]) s))

/-- ADDB, ADDIB and NEGB: modulo 256 (R142, R143, R144). -/
def Obligations.ByteArithmetic : Prop :=
  (∀ (rd ra rb : RegNo) (s : State),
    decode (fmtR 0x15#8 rd ra rb 0#4) = .ok (.addb rd ra rb) ∧
    Completes (.addb rd ra rb) s
      (WroteB rd [] (fun v => v.toNat = ((s.readB ra).toNat + (s.readB rb).toNat) % 256) s)) ∧
  (∀ (rd ra : RegNo) (imm : Byte) (s : State),
    decode (fmtI 0x16#8 rd ra (0#8 ++ imm)) = .ok (.addib rd ra imm) ∧
    Completes (.addib rd ra imm) s
      (WroteB rd [] (fun v => v.toNat = ((s.readB ra).toNat + imm.toNat) % 256) s)) ∧
  (∀ (rd ra : RegNo) (s : State),
    decode (fmtR 0x17#8 rd ra 0#4 0#4) = .ok (.negb rd ra) ∧
    Completes (.negb rd ra) s (WroteB rd [] (fun v => v.toNat = (256 - (s.readB ra).toNat) % 256) s))

/-- The laws of the scalar arithmetic (R150): the most negative number is its own negation; multiplying by one
and dividing by one change nothing; zero divided is zero; a nonzero quotient that fits has the sign of the
operands' product; the overflow of the most negative number by minus one wraps to itself. -/
def Obligations.ArithmeticLaws : Prop :=
  ∀ c : Cfg,
    wrapW c (-(-(2 ^ (c.ww - 1)))) = -(2 ^ (c.ww - 1)) ∧ wrapN c (-(-(2 ^ (c.nw - 1)))) = -(2 ^ (c.nw - 1)) ∧
    (∀ a b : Int, mulW c a b = mulW c b a ∧ mulN c a b = mulN c b a) ∧
    (∀ a : Int, Fits c.ww a →
      mulW c a c.oneW = a ∧ mulWN c a c.oneN = a ∧ divW c a c.oneW = a) ∧
    (∀ a : Int, Fits c.nw a → mulN c a c.oneN = a ∧ divN c a c.oneN = a) ∧
    (∀ b : Int, b ≠ 0 → divW c 0 b = 0 ∧ divN c 0 b = 0) ∧
    (∀ a b : Int, b ≠ 0 → Fits c.ww (Int.tdiv (a * 2 ^ c.wf) b) → divW c a b ≠ 0 →
      (divW c a b).sign = a.sign * b.sign) ∧
    divW c (-(2 ^ (c.ww - 1))) (-c.oneW) = -(2 ^ (c.ww - 1))

/-- The error bound of the QuickDivide of CFG_REF (R151), with Q = 256 n / m the exact quotient, cleared of
fractions, for products that do not wrap: below Q, by less than the table error and one unit; exact when m
divides 65536; negative denominators negate; magnitudes outside 1 to 1024 give the result of the nearer end. -/
def Obligations.QuickDivideErrorBound : Prop :=
  (∀ n m : Int, 1 ≤ m → m ≤ 1024 → Fits 32 (n * (65536 / m) / 256) →
    (0 ≤ n → m * qdiv Cfg.ref n m ≤ 256 * n ∧
      256 * n * (65536 - m) - 65536 * m < 65536 * (m * qdiv Cfg.ref n m)) ∧
    (n < 0 → 256 * n - m < m * qdiv Cfg.ref n m ∧
      (65536 % m ≠ 0 → 65536 * (m * qdiv Cfg.ref n m) ≤ 256 * n * (65536 - m)) ∧
      (65536 % m = 0 → qdiv Cfg.ref n m = 256 * n / m)) ∧
    (qdiv Cfg.ref n m ≠ -(2 ^ 31) → qdiv Cfg.ref n (-m) = -qdiv Cfg.ref n m)) ∧
  (∀ n m : Int, 1024 < m → qdiv Cfg.ref n m = qdiv Cfg.ref n 1024 ∧
    qdiv Cfg.ref n (-m) = qdiv Cfg.ref n (-1024)) ∧
  (∀ n : Int, qdiv Cfg.ref n 0 = qdiv Cfg.ref n 1)

/-! ### Vectors and matrices -/

/-- VADDW, VADDN, VSUBW, VSUBN: lane by lane, each lane wrapped (R160 to R163, R174). -/
def Obligations.VectorAddSubtract : Prop :=
  (∀ (rd ra rb : RegNo) (s : State),
    decode (fmtR 0x20#8 rd ra rb 0#4) = .ok (.vaddw rd ra rb) ∧
    Completes (.vaddw rd ra rb) s (WroteVW rd []
      (fun v => ∀ l, IsWrapW s.cfg ((s.readVW ra).get l + (s.readVW rb).get l) (v.get l)) s)) ∧
  (∀ (rd ra rb : RegNo) (s : State),
    decode (fmtR 0x21#8 rd ra rb 0#4) = .ok (.vaddn rd ra rb) ∧
    Completes (.vaddn rd ra rb) s (WroteVN rd []
      (fun v => ∀ l, IsWrapN s.cfg ((s.readVN ra).get l + (s.readVN rb).get l) (v.get l)) s)) ∧
  (∀ (rd ra rb : RegNo) (s : State),
    decode (fmtR 0x22#8 rd ra rb 0#4) = .ok (.vsubw rd ra rb) ∧
    Completes (.vsubw rd ra rb) s (WroteVW rd []
      (fun v => ∀ l, IsWrapW s.cfg ((s.readVW ra).get l - (s.readVW rb).get l) (v.get l)) s)) ∧
  (∀ (rd ra rb : RegNo) (s : State),
    decode (fmtR 0x23#8 rd ra rb 0#4) = .ok (.vsubn rd ra rb) ∧
    Completes (.vsubn rd ra rb) s (WroteVN rd []
      (fun v => ∀ l, IsWrapN s.cfg ((s.readVN ra).get l - (s.readVN rb).get l) (v.get l)) s))

/-- VSCLN, VSCLWN and VCVTNW: each lane times the scalar, floor-shifted by NF, or converted to the wide scale
(R164, R165, R166). -/
def Obligations.VectorScaleConvert : Prop :=
  (∀ (rd ra rb : RegNo) (s : State),
    decode (fmtR 0x24#8 rd ra rb 0#4) = .ok (.vscln rd ra rb) ∧
    Completes (.vscln rd ra rb) s (WroteVN rd []
      (fun v => ∀ l, IsWrapN s.cfg ((s.readVN ra).get l * s.readN rb / 2 ^ s.cfg.nf) (v.get l)) s)) ∧
  (∀ (rd ra rb : RegNo) (s : State),
    decode (fmtR 0x25#8 rd ra rb 0#4) = .ok (.vsclwn rd ra rb) ∧
    Completes (.vsclwn rd ra rb) s (WroteVW rd []
      (fun v => ∀ l, IsWrapW s.cfg (s.readW rb * (s.readVN ra).get l / 2 ^ s.cfg.nf) (v.get l)) s)) ∧
  (∀ (rd ra : RegNo) (s : State),
    decode (fmtR 0x26#8 rd ra 0#4 0#4) = .ok (.vcvtnw rd ra) ∧
    Completes (.vcvtnw rd ra) s (WroteVW rd []
      (fun v => ∀ l, IsWrapW s.cfg
        (if s.cfg.nf ≤ s.cfg.wf then (s.readVN ra).get l * 2 ^ (s.cfg.wf - s.cfg.nf)
          else (s.readVN ra).get l / 2 ^ (s.cfg.nf - s.cfg.wf)) (v.get l)) s))

/-- VCROSSW and VCROSSN: the textbook cross product, each product shifted and wrapped on its own (R167, R168,
R175). -/
def Obligations.CrossProducts : Prop :=
  (∀ (rd ra rb : RegNo) (s : State),
    decode (fmtR 0x27#8 rd ra rb 0#4) = .ok (.vcrossw rd ra rb) ∧
    Completes (.vcrossw rd ra rb) s (WroteVW rd [] (fun v =>
      let a := s.readVW ra; let b := s.readVW rb
      IsWrapW s.cfg (mulW s.cfg a.y b.z - mulW s.cfg a.z b.y) v.x ∧
      IsWrapW s.cfg (mulW s.cfg a.z b.x - mulW s.cfg a.x b.z) v.y ∧
      IsWrapW s.cfg (mulW s.cfg a.x b.y - mulW s.cfg a.y b.x) v.z) s)) ∧
  (∀ (rd ra rb : RegNo) (s : State),
    decode (fmtR 0x28#8 rd ra rb 0#4) = .ok (.vcrossn rd ra rb) ∧
    Completes (.vcrossn rd ra rb) s (WroteVN rd [] (fun v =>
      let a := s.readVN ra; let b := s.readVN rb
      IsWrapN s.cfg (mulN s.cfg a.y b.z - mulN s.cfg a.z b.y) v.x ∧
      IsWrapN s.cfg (mulN s.cfg a.z b.x - mulN s.cfg a.x b.z) v.y ∧
      IsWrapN s.cfg (mulN s.cfg a.x b.y - mulN s.cfg a.y b.x) v.z) s))

/-- The consequences that R175 draws: a vector crossed with itself is zero, and exchanging the operands negates
every lane, up to the wrap of the most negative value. -/
def Obligations.CrossProductLaws : Prop :=
  (∀ (rd ra : RegNo) (s : State),
    Completes (.vcrossw rd ra ra) s (WroteVW rd [] (fun v => v = ⟨0, 0, 0⟩) s) ∧
    Completes (.vcrossn rd ra ra) s (WroteVN rd [] (fun v => v = ⟨0, 0, 0⟩) s)) ∧
  (∀ (rd ra rb : RegNo) (s t u : State),
    (exec (.vcrossw rd ra rb) s = .next t → exec (.vcrossw rd rb ra) s = .next u →
      ∀ l, IsWrapW s.cfg (-(t.readVW rd).get l) ((u.readVW rd).get l)) ∧
    (exec (.vcrossn rd ra rb) s = .next t → exec (.vcrossn rd rb ra) s = .next u →
      ∀ l, IsWrapN s.cfg (-(t.readVN rd).get l) ((u.readVN rd).get l)))

/-- VLERPN: each lane is the end at k = 0 plus the difference times k, floor-shifted by sh, the sum wrapped
(R169, R176). -/
def Obligations.Interpolate : Prop :=
  ∀ (rd ra rb : RegNo) (k : Byte) (sh : BitVec 4) (s : State),
    decode (fmtL 0x29#8 rd ra rb sh k) = .ok (.vlerpn rd ra rb k sh) ∧
    Completes (.vlerpn rd ra rb k sh) s (WroteVN rd [] (fun v => ∀ l, IsWrapN s.cfg
      ((s.readVN ra).get l + ((s.readVN rb).get l - (s.readVN ra).get l) * k.toNat / 2 ^ sh.toNat)
      (v.get l)) s)

/-- The consequences that R176 draws, for lanes in range: the fraction 0 gives the first end, the fraction
2^sh / 2^sh the second, and a fraction between them a value between the ends. -/
def Obligations.InterpolationLaws : Prop :=
  ∀ (c : Cfg) (a b : V3) (sh : Nat), (∀ l, Fits c.nw (a.get l)) → (∀ l, Fits c.nw (b.get l)) →
    lerp c a b 0 sh = a ∧ lerp c a b (2 ^ sh) sh = b ∧
    ∀ (k : Nat) (l : Lane), 0 < k → k < 2 ^ sh →
      min (a.get l) (b.get l) ≤ (lerp c a b k sh).get l ∧ (lerp c a b k sh).get l ≤ max (a.get l) (b.get l)

/-- VEXTW, VEXTN, VINSW, VINSN: the lane that the field names is copied out or in, the other lanes of the
vector staying (R170 to R173). -/
def Obligations.LaneExtractInsert : Prop :=
  ∀ (rd ra : RegNo) (f : BitVec 2) (l : Lane) (s : State), f = BitVec.ofNat 2 l →
    decode (fmtR 0x2A#8 rd ra (0#2 ++ f) 0#4) = .ok (.vextw rd ra f) ∧
    Completes (.vextw rd ra f) s (WroteW rd [] (IsWrapW s.cfg ((s.readVW ra).get l)) s) ∧
    decode (fmtR 0x2B#8 rd ra (0#2 ++ f) 0#4) = .ok (.vextn rd ra f) ∧
    Completes (.vextn rd ra f) s (WroteN rd [] (IsWrapN s.cfg ((s.readVN ra).get l)) s) ∧
    decode (fmtR 0x2C#8 rd ra (0#2 ++ f) 0#4) = .ok (.vinsw rd ra f) ∧
    Completes (.vinsw rd ra f) s (WroteVW rd [] (fun v =>
      IsWrapW s.cfg (s.readW ra) (v.get l) ∧ ∀ k, k ≠ l → v.get k = (s.readVW rd).get k) s) ∧
    decode (fmtR 0x2D#8 rd ra (0#2 ++ f) 0#4) = .ok (.vinsn rd ra f) ∧
    Completes (.vinsn rd ra f) s (WroteVN rd [] (fun v =>
      IsWrapN s.cfg (s.readN ra) (v.get l) ∧ ∀ k, k ≠ l → v.get k = (s.readVN rd).get k) s)

/-- MIDENT, MROTX, MROTY, MROTZ: the identity and the elementary rotations, with the sine and the cosine of
the angle from the table and -s wrapped (R180 to R183, R188). -/
def Obligations.IdentityAndRotations : Prop :=
  (∀ (rd : RegNo) (s : State),
    decode (fmtR 0x30#8 rd 0#4 0#4 0#4) = .ok (.mident rd) ∧
    Completes (.mident rd) s
      (WroteM rd [] (fun m => ∀ i j, m.get i j = if i = j then 2 ^ s.cfg.nf else 0) s)) ∧
  (∀ (rd ra : RegNo) (s : State), ∃ h : (s.readB ra).toNat < s.cfg.sintab.length,
    ∃ h' : ((s.readB ra).toNat + 64) % 256 < s.cfg.sintab.length,
    let one : Int := 2 ^ s.cfg.nf
    let sn := s.cfg.sintab[(s.readB ra).toNat]
    let cs := s.cfg.sintab[((s.readB ra).toNat + 64) % 256]
    decode (fmtR 0x31#8 rd ra 0#4 0#4) = .ok (.mrotx rd ra) ∧
    Completes (.mrotx rd ra) s
      (WroteM rd [] (fun m => m = ⟨⟨one, 0, 0⟩, ⟨0, cs, sn⟩, ⟨0, wrapN s.cfg (-sn), cs⟩⟩) s) ∧
    decode (fmtR 0x32#8 rd ra 0#4 0#4) = .ok (.mroty rd ra) ∧
    Completes (.mroty rd ra) s
      (WroteM rd [] (fun m => m = ⟨⟨cs, 0, wrapN s.cfg (-sn)⟩, ⟨0, one, 0⟩, ⟨sn, 0, cs⟩⟩) s) ∧
    decode (fmtR 0x33#8 rd ra 0#4 0#4) = .ok (.mrotz rd ra) ∧
    Completes (.mrotz rd ra) s
      (WroteM rd [] (fun m => m = ⟨⟨cs, sn, 0⟩, ⟨wrapN s.cfg (-sn), cs, 0⟩, ⟨0, 0, one⟩⟩) s))

/-- MMUL, MTRANS, MVMUL: three floor-shifted products added and wrapped, the transpose, the same sum for a row
vector (R184, R185, R186, R189). -/
def Obligations.MatrixProducts : Prop :=
  (∀ (rd ra rb : RegNo) (s : State),
    decode (fmtR 0x34#8 rd ra rb 0#4) = .ok (.mmul rd ra rb) ∧
    Completes (.mmul rd ra rb) s (WroteM rd [] (fun m => ∀ i j, IsWrapN s.cfg
      ((s.readM ra).get i 0 * (s.readM rb).get 0 j / 2 ^ s.cfg.nf
        + (s.readM ra).get i 1 * (s.readM rb).get 1 j / 2 ^ s.cfg.nf
        + (s.readM ra).get i 2 * (s.readM rb).get 2 j / 2 ^ s.cfg.nf) (m.get i j)) s)) ∧
  (∀ (rd ra : RegNo) (s : State),
    decode (fmtR 0x35#8 rd ra 0#4 0#4) = .ok (.mtrans rd ra) ∧
    Completes (.mtrans rd ra) s
      (WroteM rd [] (fun m => ∀ i j, IsWrapN s.cfg ((s.readM ra).get j i) (m.get i j)) s)) ∧
  (∀ (rd ra rb : RegNo) (s : State),
    decode (fmtR 0x36#8 rd ra rb 0#4) = .ok (.mvmul rd ra rb) ∧
    Completes (.mvmul rd ra rb) s (WroteVN rd [] (fun v => ∀ j, IsWrapN s.cfg
      ((s.readVN ra).x * (s.readM rb).get 0 j / 2 ^ s.cfg.nf
        + (s.readVN ra).y * (s.readM rb).get 1 j / 2 ^ s.cfg.nf
        + (s.readVN ra).z * (s.readM rb).get 2 j / 2 ^ s.cfg.nf) (v.get j)) s))

/-- MFWD copies row 2 of the matrix, and leaves the state that MVMUL of the unit forward vector (0, 0, ONE_N)
leaves (R187). -/
def Obligations.ForwardVector : Prop :=
  ∀ (rd ra : RegNo) (s : State),
    decode (fmtR 0x37#8 rd ra 0#4 0#4) = .ok (.mfwd rd ra) ∧
    Completes (.mfwd rd ra) s fun t =>
      WroteVN rd [] (fun v => ∀ l, IsWrapN s.cfg ((s.readM ra).get 2 l) (v.get l)) s t ∧
      ∀ rv : RegNo, s.readVN rv = ⟨0, 0, s.cfg.oneN⟩ → exec (.mvmul rd rv ra) s = .next t

/-! ### Rays, textures, pixels -/

/-- RCLASS: CLS becomes 1 below -T, 2 from -T to -1, 0 from 0 to T, 3 above T, and nothing else changes (R200,
R203). -/
def Obligations.ClassifyRay : Prop :=
  ∀ (ra : RegNo) (s : State),
    decode (fmtR 0x40#8 0#4 ra 0#4 0#4) = .ok (.rclass ra) ∧
    Completes (.rclass ra) s fun t => SameOutside [.cls] s t ∧
      (s.readN ra < -(s.cfg.tBand : Int) → t.cls = 1#2) ∧
      (-(s.cfg.tBand : Int) ≤ s.readN ra → s.readN ra < 0 → t.cls = 2#2) ∧
      ((s.cfg.tBand : Int) < s.readN ra → t.cls = 3#2) ∧
      (0 ≤ s.readN ra → s.readN ra ≤ (s.cfg.tBand : Int) → t.cls = 0#2)

/-- RGND and RCLD: the distance by qdiv, the point by mulWN, the plane's height in the y lane, for every
direction (R201, R202, R204, R205); the functions of the frame sequencer answer the same. -/
def Obligations.PlaneIntersections : Prop :=
  (∀ (rd ra rb : RegNo) (s : State),
    let c := s.cfg; let p := s.readVW ra; let d := s.readVN rb
    let dist := qdiv c p.y (wrapN c (-d.y))
    decode (fmtR 0x41#8 rd ra rb 0#4) = .ok (.rgnd rd ra rb) ∧
    Completes (.rgnd rd ra rb) s fun t =>
      WroteVW rd [.dist] (fun v => IsWrapW c (p.x + mulWN c dist d.x) v.x ∧ v.y = 0 ∧
        IsWrapW c (p.z + mulWN c dist d.z) v.z) s t ∧
      t.dist = dist ∧ groundHit c p d = (t.readVW rd, t.dist)) ∧
  (∀ (rd ra rb : RegNo) (s : State),
    let c := s.cfg; let p := s.readVW ra; let d := s.readVN rb
    let dist := qdiv c (wrapW c (c.cloudH - p.y)) d.y
    decode (fmtR 0x42#8 rd ra rb 0#4) = .ok (.rcld rd ra rb) ∧
    Completes (.rcld rd ra rb) s fun t =>
      WroteVW rd [.dist] (fun v => IsWrapW c (p.x + mulWN c dist d.x) v.x ∧ v.y = c.cloudH ∧
        IsWrapW c (p.z + mulWN c dist d.z) v.z) s t ∧
      t.dist = dist ∧ cloudHit c p d = (t.readVW rd, t.dist))

/-- TEXG and TEXC: the byte at the index made of the masked, floor-shifted z and x lanes (R210, R211, R212). -/
def Obligations.TextureSamples : Prop :=
  (∀ (rd ra : RegNo) (s : State),
    let p := s.readVW ra
    decode (fmtR 0x50#8 rd ra 0#4 0#4) = .ok (.texg rd ra) ∧
    ∃ k : Nat, ∃ h : k < s.cfg.gtex.length, k = gaddr s.cfg p ∧
      (k : Int) = p.z / 2 ^ (s.cfg.wu + 4) % 64 * 64 + p.x / 2 ^ (s.cfg.wu + 4) % 64 ∧
      Completes (.texg rd ra) s (WroteB rd [] (fun v => v = s.cfg.gtex[k]) s)) ∧
  (∀ (rd ra : RegNo) (s : State),
    let p := s.readVW ra
    decode (fmtR 0x51#8 rd ra 0#4 0#4) = .ok (.texc rd ra) ∧
    ∃ k : Nat, ∃ h : k < s.cfg.ctex.length, k = caddr s.cfg p ∧
      (k : Int) = p.z / 2 ^ (s.cfg.wu + 4) % 32 * 32 + p.x / 2 ^ (s.cfg.wu + 4) % 32 ∧
      Completes (.texc rd ra) s (WroteB rd [] (fun v => v = s.cfg.ctex[k]) s))

/-- The texture addresses are periodic in x and z, and the periods hold across the wrap of a wide lane when
WW >= TEXSH + 6 (R213). -/
def Obligations.TexturePeriodicity : Prop :=
  ∀ (c : Cfg) (p : V3) (i j : Int),
    gaddr c ⟨p.x + i * 2 ^ (c.texSh + 6), p.y, p.z + j * 2 ^ (c.texSh + 6)⟩ = gaddr c p ∧
    caddr c ⟨p.x + i * 2 ^ (c.texSh + 5), p.y, p.z + j * 2 ^ (c.texSh + 5)⟩ = caddr c p ∧
    (c.texSh + 6 ≤ c.ww →
      gaddr c ⟨wrapW c p.x, p.y, wrapW c p.z⟩ = gaddr c p ∧
      caddr c ⟨wrapW c p.x, p.y, wrapW c p.z⟩ = caddr c p)

/-- DQC packs the four comparisons of a 2x2 block into bits 3:0; DQF answers the one comparison of a parity;
the functions of the frame sequencer answer the same bits (R221, R222, R223, R227, R228). -/
def Obligations.Quantizers : Prop :=
  (∀ (rd ra : RegNo) (s : State),
    let l : Int := (s.readB ra).toNat
    let th (dx dy : Fin 2) : Int := if s.cfg.dsel.get dy dx then s.cfg.dm1.get dy dx else s.cfg.dm0.get dy dx
    decode (fmtR 0x60#8 rd ra 0#4 0#4) = .ok (.dqc rd ra) ∧
    Completes (.dqc rd ra) s (WroteB rd [] (fun v =>
      v.toNat < 16 ∧ ∀ dx dy : Fin 2, (v.getLsbD (2 * dy + dx) = true ↔ th dx dy < l) ∧
        qbit s.cfg (s.readB ra) dx dy = v.getLsbD (2 * dy + dx)) s)) ∧
  (∀ (rd ra : RegNo) (par : BitVec 1) (s : State),
    let l : Int := (s.readB ra).toNat
    decode (fmtR 0x61#8 rd ra (0#3 ++ par) 0#4) = .ok (.dqf rd ra par) ∧
    Completes (.dqf rd ra par) s (WroteB rd [] (fun v =>
      v = (if (if par = 1#1 then s.cfg.fth1 else s.cfg.fth0) < l then 1#8 else 0#8) ∧
      fbit s.cfg (s.readB ra) (par == 1#1) = (v == 1#8)) s))

/-- FBPIX: bit y' & 7 of the byte at (y' >>a 3) * SW + x', with x' and y' masked into the screen, becomes bit 0
of the register; every other bit and every other byte stays (R220, R224). -/
def Obligations.PixelWrite : Prop :=
  ∀ (ra : RegNo) (x y : Byte) (s : State),
    let a := pixIndex s.cfg x.toNat y.toNat
    decode (fmtP 0x62#8 ra y x) = .ok (.fbpix ra x y) ∧
    a = y.toNat % s.cfg.sh / 8 * s.cfg.sw + x.toNat % s.cfg.sw ∧ a < s.cfg.fbSize ∧
    Completes (.fbpix ra x y) s (WroteFB (fun t =>
      (∀ k, k < 8 → (t.readFB a).getLsbD k
        = if k = y.toNat % s.cfg.sh % 8 then (s.readB ra).getLsbD 0 else (s.readFB a).getLsbD k) ∧
      ∀ q, q ≠ a → t.readFB q = s.readFB q) s)

/-- FBBLK: the four pixels of the block, each coordinate masked by itself, become bits 3:0 of the register;
every other pixel, and every byte other than theirs, stays (R225). -/
def Obligations.BlockWrite : Prop :=
  ∀ (ra : RegNo) (x y : Byte) (s : State),
    let c := s.cfg
    let px (dx : Fin 2) : Nat := (x.toNat + dx) % c.sw
    let py (dy : Fin 2) : Nat := (y.toNat + dy) % c.sh
    decode (fmtP 0x63#8 ra y x) = .ok (.fbblk ra x y) ∧
    Completes (.fbblk ra x y) s (WroteFB (fun t =>
      (∀ dx dy : Fin 2, pixelAt c t.fb (px dx) (py dy) = (s.readB ra).getLsbD (2 * dy + dx)) ∧
      (∀ u v, u < c.sw → v < c.sh → (∀ dx dy : Fin 2, ¬ (u = px dx ∧ v = py dy)) →
        pixelAt c t.fb u v = pixelAt c s.fb u v) ∧
      ∀ q, (∀ dx dy : Fin 2, q ≠ pixIndex c (x.toNat + dx) (y.toNat + dy)) → t.readFB q = s.readFB q) s)

/-- FBST: the whole byte at (page & (PAGES - 1)) * SW + (x & (SW - 1)) is overwritten; every other byte stays
(R226). -/
def Obligations.PageStore : Prop :=
  ∀ (ra : RegNo) (x page : Byte) (s : State),
    let a := pageIndex s.cfg x.toNat page.toNat
    decode (fmtP 0x64#8 ra page x) = .ok (.fbst ra x page) ∧
    a = page.toNat % s.cfg.pages * s.cfg.sw + x.toNat % s.cfg.sw ∧ a < s.cfg.fbSize ∧
    Completes (.fbst ra x page) s (WroteFB (fun t =>
      t.readFB a = s.readB ra ∧ ∀ q, q ≠ a → t.readFB q = s.readFB q) s)

/-! ### Camera -/

/-- CAMROT: CAM_ROT becomes the rotation of the three angles, CAM_INV its transpose; nothing else changes
(R240, R241). -/
def Obligations.CameraRotation : Prop :=
  ∀ s : State,
    decode 0x70000000#32 = .ok .camrot ∧
    Completes .camrot s fun t =>
      t.camRot = cameraMatrix s.cfg s.pitch s.roll s.yaw ∧ (∀ i j, t.camInv.get i j = t.camRot.get j i) ∧
      SameOutside [.camRot, .camInv] s t

/-- CAMTICK: the six steps of the tick (R242). The angles count modulo 256, the yaw turning by the clamped
eighth of the new signed roll; the rotation is that of the new angles; the position moves by row 2 of it,
wraps, and its altitude is clamped; nothing else changes. -/
def Obligations.CameraTick : Prop :=
  ∀ (mask : BitVec 4) (s : State),
    let c := s.cfg
    decode (fmtI 0x71#8 0#4 0#4 (0#12 ++ mask)) = .ok (.camtick mask) ∧
    Completes (.camtick mask) s fun t =>
      t.pitch.toNat = (s.pitch.toNat + 256 + bit (mask.getLsbD 1) - bit (mask.getLsbD 0)) % 256 ∧
      t.roll.toNat = (s.roll.toNat + 256 + bit (mask.getLsbD 2) - bit (mask.getLsbD 3)) % 256 ∧
      (t.yaw.toNat : Int) = (s.yaw.toNat + min (max (Int.tdiv t.roll.toInt 8) (-3)) 3) % 256 ∧
      t.camRot = cameraMatrix c t.pitch t.roll t.yaw ∧ (∀ i j, t.camInv.get i j = t.camRot.get j i) ∧
      IsWrapW c (s.camPos.x + cvtNW c (t.camRot.get 2 0)) t.camPos.x ∧
      IsWrapW c (min (max (wrapW c (s.camPos.y + cvtNW c (t.camRot.get 2 1))) (2 ^ c.wu)) (120 * 2 ^ c.wu))
        t.camPos.y ∧
      IsWrapW c (s.camPos.z + cvtNW c (t.camRot.get 2 2)) t.camPos.z ∧
      SameOutside [.pitch, .roll, .yaw, .camRot, .camInv, .camPos] s t

/-- MCAM, MCAMI and VCAM copy the camera registers (R243, R244, R245). -/
def Obligations.CameraCopies : Prop :=
  (∀ (rd : RegNo) (s : State),
    decode (fmtR 0x72#8 rd 0#4 0#4 0#4) = .ok (.mcam rd) ∧
    Completes (.mcam rd) s
      (WroteM rd [] (fun m => ∀ i j, IsWrapN s.cfg (s.camRot.get i j) (m.get i j)) s)) ∧
  (∀ (rd : RegNo) (s : State),
    decode (fmtR 0x73#8 rd 0#4 0#4 0#4) = .ok (.mcami rd) ∧
    Completes (.mcami rd) s
      (WroteM rd [] (fun m => ∀ i j, IsWrapN s.cfg (s.camInv.get i j) (m.get i j)) s)) ∧
  (∀ (rd : RegNo) (s : State),
    decode (fmtR 0x74#8 rd 0#4 0#4 0#4) = .ok (.vcam rd) ∧
    Completes (.vcam rd) s
      (WroteVW rd [] (fun v => ∀ l, IsWrapW s.cfg (s.camPos.get l) (v.get l)) s))

/-- Properties of the tick that R248 lists: the altitude is within its bounds after every tick (where the upper
bound is a wide raw value); the yaw turns by 3 units for a new roll of 24 and more either way, and not at all
for -7 to 7; with no input and roll 0 the angles hold; 256 ticks of "up" return the pitch. -/
def Obligations.CameraTickProperties : Prop :=
  (∀ (mask : BitVec 4) (s t : State), exec (.camtick mask) s = .next t →
    (s.cfg.altMax < 2 ^ (s.cfg.ww - 1) → s.cfg.altMin ≤ t.camPos.y ∧ t.camPos.y ≤ s.cfg.altMax) ∧
    (24 ≤ t.roll.toInt → t.yaw = s.yaw + 3#8) ∧ (t.roll.toInt ≤ -24 → t.yaw = s.yaw - 3#8) ∧
    (-7 ≤ t.roll.toInt → t.roll.toInt ≤ 7 → t.yaw = s.yaw)) ∧
  (∀ s t : State, s.roll = 0#8 → exec (.camtick 0#4) s = .next t →
    t.pitch = s.pitch ∧ t.roll = 0#8 ∧ t.yaw = s.yaw) ∧
  (∀ s : State, RunCompletes (List.replicate 256 (.camtick 1#4)) s fun t => t.pitch = s.pitch)

/-- The primitive commands reproduce a tick: run on the same camera position with the tick's new angles and the
altitude bounds in registers, they leave the tick's CAM_ROT, CAM_INV and CAM_POS in M3, M4 and VW0 (R249). -/
def Obligations.TickByPrimitiveCommands : Prop :=
  ∀ (mask : BitVec 4) (s t s' : State), exec (.camtick mask) s = .next t →
    s'.cfg = s.cfg → s'.camPos = s.camPos →
    s'.readB 0 = t.pitch → s'.readB 1 = t.roll → s'.readB 2 = t.yaw →
    s'.readW 1 = s.cfg.altMin → s'.readW 2 = s.cfg.altMax →
    RunCompletes tickByPrimitives s' fun u =>
      u.readM 3 = t.camRot ∧ u.readM 4 = t.camInv ∧ u.readVW 0 = t.camPos

/-! ### Frames -/

/-- RCORN: the four viewport corners through the matrix go to VN[4] to VN[7]; nothing else changes (R260,
R267); the corners of the frame sequencer are the same four vectors. -/
def Obligations.CornerRaysOfAMatrix : Prop :=
  ∀ (ra : RegNo) (s : State),
    let c := s.cfg; let m := s.readM ra
    decode (fmtR 0x80#8 0#4 ra 0#4 0#4) = .ok (.rcorn ra) ∧
    Completes (.rcorn ra) s fun t =>
      t.readVN 4 = mvmul c ⟨wrapN c (-c.hx), c.hy, c.hz⟩ m ∧
      t.readVN 5 = mvmul c ⟨c.hx, c.hy, c.hz⟩ m ∧
      t.readVN 6 = mvmul c ⟨wrapN c (-c.hx), wrapN c (-c.hy), c.hz⟩ m ∧
      t.readVN 7 = mvmul c ⟨c.hx, wrapN c (-c.hy), c.hz⟩ m ∧
      (∀ q, q ≠ 4 → q ≠ 5 → q ≠ 6 → q ≠ 7 → t.readVN q = s.readVN q) ∧ SameOutside [.vn] s t ∧
      corners c m = ⟨t.readVN 4, t.readVN 5, t.readVN 6, t.readVN 7⟩

/-- RSHADE: the class by the y lane, the level by the class, the distance where a plane is hit, DIST keeping its
value where none is (R261, R262); the shading of the frame sequencer gives the same level. -/
def Obligations.ShadeOneSample : Prop :=
  ∀ (rd ra : RegNo) (s : State),
    let c := s.cfg; let p := s.camPos; let d := s.readVN ra
    decode (fmtR 0x81#8 rd ra 0#4 0#4) = .ok (.rshade rd ra) ∧
    Completes (.rshade rd ra) s fun t =>
      t.readB rd = (shade c p d).level ∧
      (d.y < -(c.tBand : Int) → t.cls = 1#2 ∧ t.dist = (groundHit c p d).2 ∧
        WroteB rd [.cls, .dist] (fun v => v = c.gtex.getD (gaddr c (groundHit c p d).1) 0#8) s t) ∧
      (-(c.tBand : Int) ≤ d.y → d.y < 0 → t.cls = 2#2 ∧ WroteB rd [.cls] (fun v => v = c.groundFlat) s t) ∧
      ((c.tBand : Int) < d.y → t.cls = 3#2 ∧ t.dist = (cloudHit c p d).2 ∧
        WroteB rd [.cls, .dist] (fun v => v = c.ctex.getD (caddr c (cloudHit c p d).1) 0#8) s t) ∧
      (0 ≤ d.y → d.y ≤ (c.tBand : Int) → t.cls = 0#2 ∧ WroteB rd [.cls] (fun v => v = c.skyLevel) s t)

/-- REND: every pixel of the screen is the one that the strategy of RCTRL.FULLRES computes for it from CAM_ROT
and CAM_POS; every byte outside FB, and everything else, stays (R263, R264, R265). -/
def Obligations.FramePixels : Prop :=
  ∀ s : State,
    decode 0x82000000#32 = .ok .rend ∧
    Completes .rend s (WroteFB (fun t =>
      (∀ x y, x < s.cfg.sw → y < s.cfg.sh →
        pixelAt s.cfg t.fb x y = framePixel s.cfg s.camPos s.camRot (s.rctrl.getLsbD 0) x y) ∧
      ∀ a, s.cfg.fbSize ≤ a → t.readFB a = s.readFB a) s)

/-- The frame depends only on CAM_ROT, CAM_POS, RCTRL.FULLRES and CFG: two states that agree on these give the
same bytes, whatever else they hold, the old frame included (R263, R270). -/
def Obligations.FrameDependsOnTheCameraOnly : Prop :=
  ∀ s s' : State, s'.cfg = s.cfg → s'.camRot = s.camRot → s'.camPos = s.camPos →
    s'.rctrl.getLsbD 0 = s.rctrl.getLsbD 0 →
    Completes .rend s fun t => Completes .rend s' fun t' =>
      ∀ a, a < s.cfg.fbSize → t'.readFB a = t.readFB a

/-- The frame is periodic in the position: moving CAM_POS.x and CAM_POS.z by multiples of 2^(TEXSH+6), with the
lanes wrapped, leaves every byte of the frame, when WW >= TEXSH + 6 (R213, R270). -/
def Obligations.FrameIsPeriodic : Prop :=
  ∀ (s : State) (i j : Int), s.cfg.texSh + 6 ≤ s.cfg.ww →
    Completes .rend s fun t =>
      Completes .rend
        { s with camPos := ⟨wrapW s.cfg (s.camPos.x + i * 2 ^ (s.cfg.texSh + 6)), s.camPos.y,
                            wrapW s.cfg (s.camPos.z + j * 2 ^ (s.cfg.texSh + 6))⟩ }
        fun t' => ∀ a, t'.readFB a = t.readFB a

/-- The pixels of a sample in the near-horizon dead zone show the flat ground level, and those of a sample in the
sky band the sky level, whatever the camera position is (R206, R261, R270). -/
def Obligations.FlatLevels : Prop :=
  ∀ (s : State) (x y : Nat), x < s.cfg.sw → y < s.cfg.sh →
    let c := s.cfg
    let dy := if s.rctrl.getLsbD 0 then (direction c s.camRot x y).y
      else (direction c s.camRot (x / 2 * 2) (y / 2 * 2)).y
    let shown (level : Byte) : Bool := if s.rctrl.getLsbD 0 then fbit c level ((x + y) % 2 == 1)
      else qbit c level (Fin.ofNat 2 x) (Fin.ofNat 2 y)
    Completes .rend s fun t =>
      (-(c.tBand : Int) ≤ dy → dy < 0 → pixelAt c t.fb x y = shown c.groundFlat) ∧
      (0 ≤ dy → dy ≤ (c.tBand : Int) → pixelAt c t.fb x y = shown c.skyLevel)

/-- The host loop of primitive commands leaves in FB exactly what REND leaves, in both strategies (R269). The
rotation is in range, as it is in every state with the invariant. -/
def Obligations.RenderLoopEqualsRend : Prop :=
  ∀ s : State, Inv s →
    Completes .rend s fun t =>
      (s.rctrl.getLsbD 0 = false → RunCompletes (coarseLoop s.cfg) s fun u => u.fb = t.fb) ∧
      (s.rctrl.getLsbD 0 = true → RunCompletes (fullLoop s.cfg) s fun u => u.fb = t.fb)
end

