-- ==== Sys2Proof/Laws/Arith.lean ====
section
/-! SUPPORT. The laws of the spec's integer arithmetic: what wrap answers (00_scope.md R9), the shift and
the bit pattern (R10, R63), and the facts of a well-formed configuration that they need. -/

namespace Sys2Proof.Machine

/-- Half of 2^w, for w at least 1. -/
theorem two_pow_half {w : Nat} (hw : 1 ≤ w) : (2 : Int) ^ w = 2 * 2 ^ (w - 1) := by
  obtain ⟨k, rfl⟩ : ∃ k, w = k + 1 := ⟨w - 1, by omega⟩
  simp [pow_succ, mul_comm]

/-- wrap lands in the range of its width (R9). -/
theorem fits_wrap {w : Nat} (hw : 1 ≤ w) (z : Int) : Fits w (wrap w z) := by
  have h2 := two_pow_half hw
  have hpos : 0 < (2 : Nat) ^ w := Nat.two_pow_pos w
  have hc : (((2 : Nat) ^ w : Nat) : Int) = 2 ^ w := by push_cast; rfl
  have h1 := Int.le_bmod (x := z) hpos
  have h3 := Int.bmod_lt (x := z) hpos
  unfold Fits wrap
  rw [hc] at h1 h3
  omega

/-- wrap changes its argument by a multiple of 2^w (R9). -/
theorem dvd_wrap_sub (w : Nat) (z : Int) : (2 : Int) ^ w ∣ wrap w z - z := by
  have h : Int.emod (wrap w z) ((2 ^ w : Nat) : Int) = z % ((2 ^ w : Nat) : Int) := Int.bmod_emod
  have hc : (((2 : Nat) ^ w : Nat) : Int) = 2 ^ w := by push_cast; rfl
  rw [hc] at h
  exact Int.dvd_of_emod_eq_zero (Int.emod_eq_emod_iff_emod_sub_eq_zero.1 h)

/-- A number in range is its own wrap. -/
theorem wrap_of_fits {w : Nat} (hw : 1 ≤ w) {z : Int} (h : Fits w z) : wrap w z = z := by
  have h2 := two_pow_half hw
  have hc : (((2 : Nat) ^ w : Nat) : Int) = 2 ^ w := by push_cast; rfl
  unfold Fits at h
  apply Int.bmod_eq_of_le <;> rw [hc] <;> omega

/-- Numbers congruent modulo 2^w wrap to the same number. -/
theorem wrap_congr {w : Nat} {a b : Int} (h : (2 : Int) ^ w ∣ a - b) : wrap w a = wrap w b := by
  have hc : (((2 : Nat) ^ w : Nat) : Int) = 2 ^ w := by push_cast; rfl
  unfold wrap
  rw [← Int.emod_bmod (x := a), ← Int.emod_bmod (x := b), hc,
    Int.emod_eq_emod_iff_emod_sub_eq_zero.2 (Int.emod_eq_zero_of_dvd h)]

/-- The wrap is the only number in range congruent to its argument (R9). -/
theorem eq_wrap_of_fits_of_dvd {w : Nat} (hw : 1 ≤ w) {z v : Int} (h : Fits w v)
    (hd : (2 : Int) ^ w ∣ v - z) : v = wrap w z := by
  rw [← wrap_congr hd, wrap_of_fits hw h]

/-- Wrapping twice is wrapping once. -/
theorem wrap_wrap {w : Nat} (z : Int) : wrap w (wrap w z) = wrap w z := wrap_congr (dvd_wrap_sub w z)

/-- Zero is its own wrap. -/
@[simp] theorem wrap_zero (w : Nat) : wrap w 0 = 0 := by simp [wrap]

/-- A wide lane has at least one bit (R5). -/
theorem one_le_ww (c : Cfg) : 1 ≤ c.ww := by have := c.ok.ww_ge; omega

/-- A narrow lane has at least one bit (R5). -/
theorem one_le_nw (c : Cfg) : 1 ≤ c.nw := by have := c.ok.nw_ge; omega

theorem fits_wrapW (c : Cfg) (z : Int) : Fits c.ww (wrapW c z) := fits_wrap (one_le_ww c) z

theorem fits_wrapN (c : Cfg) (z : Int) : Fits c.nw (wrapN c z) := fits_wrap (one_le_nw c) z

theorem wrapW_of_fits (c : Cfg) {z : Int} (h : Fits c.ww z) : wrapW c z = z :=
  wrap_of_fits (one_le_ww c) h

theorem wrapN_of_fits (c : Cfg) {z : Int} (h : Fits c.nw z) : wrapN c z = z :=
  wrap_of_fits (one_le_nw c) h

@[simp] theorem wrapW_wrapW (c : Cfg) (z : Int) : wrapW c (wrapW c z) = wrapW c z := wrap_wrap z

@[simp] theorem wrapN_wrapN (c : Cfg) (z : Int) : wrapN c (wrapN c z) = wrapN c z := wrap_wrap z

@[simp] theorem wrapW_zero (c : Cfg) : wrapW c 0 = 0 := wrap_zero _

@[simp] theorem wrapN_zero (c : Cfg) : wrapN c 0 = 0 := wrap_zero _

/-- The shift is the floor of the quotient (R10). -/
theorem asr_eq (a : Int) (s : Nat) : asr a s = a / 2 ^ s := by simp [asr]

/-- The shift undoes the scaling it follows. -/
theorem asr_mul_two_pow (a : Int) (s : Nat) : asr (a * 2 ^ s) s = a := by
  rw [asr_eq]
  exact Int.mul_ediv_cancel _ (by positivity)

@[simp] theorem asr_zero_left (s : Nat) : asr 0 s = 0 := by simp [asr]

theorem shl_eq (a : Int) (s : Nat) : shl a s = a * 2 ^ s := by simp [shl]

/-- The low bits of a number depend on it modulo 2^k only (R10). -/
theorem lowBits_congr {k : Nat} {a b : Int} (h : (2 : Int) ^ k ∣ a - b) : lowBits a k = lowBits b k := by
  have hc : (((2 : Nat) ^ k : Nat) : Int) = 2 ^ k := by push_cast; rfl
  unfold lowBits pattern
  rw [hc, Int.emod_eq_emod_iff_emod_sub_eq_zero.2 (Int.emod_eq_zero_of_dvd h)]

/-- The low bits are below 2^k (R10). -/
theorem lowBits_lt (a : Int) (k : Nat) : lowBits a k < 2 ^ k := by
  have hpos : (0 : Int) < ((2 ^ k : Nat) : Int) := by exact_mod_cast Nat.two_pow_pos k
  have h1 := Int.emod_lt_of_pos a hpos
  have h2 := Int.emod_nonneg a (Int.ne_of_gt hpos)
  unfold lowBits pattern
  omega

/-- A pattern depends on the lane modulo 2^w only, so a wrapped lane has the pattern of its argument. -/
theorem pattern_wrap (w : Nat) (z : Int) : pattern w (wrap w z) = pattern w z := by
  unfold pattern wrap
  rw [show Int.bmod z (2 ^ w) % ((2 ^ w : Nat) : Int) = z % ((2 ^ w : Nat) : Int) from Int.bmod_emod]

/-- A host value read back is the value cut to the width (R63). -/
theorem pattern_wrap_natCast (w v : Nat) : pattern w (wrap w (v : Int)) = v % 2 ^ w := by
  rw [pattern_wrap]
  unfold pattern
  rw [← Int.natCast_emod]
  exact Int.toNat_natCast _

/-- ONE_N is a narrow raw value (R5, R6). -/
theorem fits_oneN (c : Cfg) : Fits c.nw c.oneN := by
  have h := c.ok.nf_lt
  have h1 : (0 : Int) < 2 ^ c.nf := by positivity
  have h2 : (2 : Int) ^ c.nf < 2 ^ (c.nw - 1) := by
    exact_mod_cast Nat.pow_lt_pow_right (by decide : 1 < 2) h
  unfold Fits Cfg.oneN
  constructor <;> omega

/-- Zero fits in every width. -/
theorem fits_zero (w : Nat) : Fits w 0 := by
  have h : (0 : Int) < 2 ^ (w - 1) := by positivity
  unfold Fits
  constructor <;> omega

/-- Every sine is a narrow raw value (R5, R148). -/
theorem fits_sinOf (c : Cfg) (a : Byte) : Fits c.nw (sinOf c a) := by
  have hl : a.toNat < c.sintab.length := by rw [c.ok.sintab_length]; exact a.isLt
  unfold sinOf
  rw [List.getD_eq_getElem _ _ hl]
  exact c.ok.sintab_fits _ (List.getElem_mem hl)

theorem fits_cosOf (c : Cfg) (a : Byte) : Fits c.nw (cosOf c a) := fits_sinOf c _

/-- The index of qdiv is inside RECIP (R147). -/
theorem qdivIndex_lt (c : Cfg) (d : Int) : qdivIndex c d < c.recip.length := by
  rw [c.ok.recip_length]
  have := c.ok.qd_le
  unfold qdivIndex
  omega

end Sys2Proof.Machine
end

