-- ==== Sys2Proof/Laws/Encoding.lean ====
section
/-! SUPPORT. The fields of a word that a format builds (30_encoding.md R91 to R94): each field reads back
what was put there. -/

namespace Sys2Proof

/-- The upper part of a concatenation, read back. -/
theorem extract_append_high {m n : Nat} (a : BitVec m) (b : BitVec n) (lo len : Nat) (h : n ≤ lo) :
    (a ++ b).extractLsb' lo len = a.extractLsb' (lo - n) len := by
  apply BitVec.eq_of_getLsbD_eq
  intro i hi
  simp only [BitVec.getLsbD_extractLsb', BitVec.getLsbD_append]
  rw [if_neg (by omega), show lo + i - n = lo - n + i by omega]

/-- The lower part of a concatenation, read back. -/
theorem extract_append_low {m n : Nat} (a : BitVec m) (b : BitVec n) (lo len : Nat) (h : lo + len ≤ n) :
    (a ++ b).extractLsb' lo len = b.extractLsb' lo len := by
  apply BitVec.eq_of_getLsbD_eq
  intro i hi
  simp only [BitVec.getLsbD_extractLsb', BitVec.getLsbD_append]
  rw [if_pos (by omega)]

/-- All of a vector, read back. -/
theorem extract_all {n : Nat} (a : BitVec n) : a.extractLsb' 0 n = a := by simp

section FormatR
variable (op : Byte) (rd ra rb rc : RegNo)

@[simp] theorem opField_fmtR : opField (fmtR op rd ra rb rc) = op := by
  simp only [opField, fmtR]
  repeat rw [extract_append_high _ _ _ _ (by decide)]
  exact extract_all op

@[simp] theorem rdField_fmtR : rdField (fmtR op rd ra rb rc) = rd := by
  simp only [rdField, fmtR]
  repeat rw [extract_append_high _ _ _ _ (by decide)]
  rw [extract_append_low _ _ _ _ (by decide)]
  exact extract_all rd

@[simp] theorem raField_fmtR : raField (fmtR op rd ra rb rc) = ra := by
  simp only [raField, fmtR]
  repeat rw [extract_append_high _ _ _ _ (by decide)]
  rw [extract_append_low _ _ _ _ (by decide)]
  exact extract_all ra

@[simp] theorem rbField_fmtR : rbField (fmtR op rd ra rb rc) = rb := by
  simp only [rbField, fmtR]
  repeat rw [extract_append_high _ _ _ _ (by decide)]
  rw [extract_append_low _ _ _ _ (by decide)]
  exact extract_all rb

@[simp] theorem rcField_fmtR : rcField (fmtR op rd ra rb rc) = rc := by
  simp only [rcField, fmtR]
  repeat rw [extract_append_high _ _ _ _ (by decide)]
  rw [extract_append_low _ _ _ _ (by decide)]
  exact extract_all rc

end FormatR

section FormatI
variable (op : Byte) (rd ra : RegNo) (imm : BitVec 16)

@[simp] theorem opField_fmtI : opField (fmtI op rd ra imm) = op := by
  simp only [opField, fmtI]
  repeat rw [extract_append_high _ _ _ _ (by decide)]
  exact extract_all op

@[simp] theorem rdField_fmtI : rdField (fmtI op rd ra imm) = rd := by
  simp only [rdField, fmtI]
  repeat rw [extract_append_high _ _ _ _ (by decide)]
  rw [extract_append_low _ _ _ _ (by decide)]
  exact extract_all rd

@[simp] theorem raField_fmtI : raField (fmtI op rd ra imm) = ra := by
  simp only [raField, fmtI]
  repeat rw [extract_append_high _ _ _ _ (by decide)]
  rw [extract_append_low _ _ _ _ (by decide)]
  exact extract_all ra

@[simp] theorem imm16Field_fmtI : imm16Field (fmtI op rd ra imm) = imm := by
  simp only [imm16Field, fmtI]
  rw [extract_append_low _ _ _ _ (by decide)]
  exact extract_all imm

end FormatI

@[simp] theorem opField_fmtL (op : Byte) (rd ra rb : RegNo) (sh : BitVec 4) (k : Byte) :
    opField (fmtL op rd ra rb sh k) = op := by
  simp only [opField, fmtL]
  repeat rw [extract_append_high _ _ _ _ (by decide)]
  exact extract_all op

@[simp] theorem opField_fmtP (op : Byte) (ra : RegNo) (y x : Byte) : opField (fmtP op ra y x) = op := by
  simp only [opField, fmtP]
  repeat rw [extract_append_high _ _ _ _ (by decide)]
  exact extract_all op

section FormatL
variable (op : Byte) (rd ra rb : RegNo) (sh : BitVec 4) (k : Byte)

@[simp] theorem rdField_fmtL : rdField (fmtL op rd ra rb sh k) = rd := by
  simp only [rdField, fmtL]
  repeat rw [extract_append_high _ _ _ _ (by decide)]
  rw [extract_append_low _ _ _ _ (by decide)]
  exact extract_all rd

@[simp] theorem raField_fmtL : raField (fmtL op rd ra rb sh k) = ra := by
  simp only [raField, fmtL]
  repeat rw [extract_append_high _ _ _ _ (by decide)]
  rw [extract_append_low _ _ _ _ (by decide)]
  exact extract_all ra

@[simp] theorem rbField_fmtL : rbField (fmtL op rd ra rb sh k) = rb := by
  simp only [rbField, fmtL]
  repeat rw [extract_append_high _ _ _ _ (by decide)]
  rw [extract_append_low _ _ _ _ (by decide)]
  exact extract_all rb

@[simp] theorem shField_fmtL : shField (fmtL op rd ra rb sh k) = sh := by
  simp only [shField, fmtL]
  repeat rw [extract_append_high _ _ _ _ (by decide)]
  rw [extract_append_low _ _ _ _ (by decide)]
  exact extract_all sh

@[simp] theorem kField_fmtL : kField (fmtL op rd ra rb sh k) = k := by
  simp only [kField, fmtL]
  rw [extract_append_low _ _ _ _ (by decide)]
  exact extract_all k

end FormatL

section FormatP
variable (op : Byte) (ra : RegNo) (y x : Byte)

@[simp] theorem raField_fmtP : raField (fmtP op ra y x) = ra := by
  simp only [raField, fmtP]
  repeat rw [extract_append_high _ _ _ _ (by decide)]
  rw [extract_append_low _ _ _ _ (by decide)]
  exact extract_all ra

@[simp] theorem yField_fmtP : yField (fmtP op ra y x) = y := by
  simp only [yField, fmtP]
  repeat rw [extract_append_high _ _ _ _ (by decide)]
  rw [extract_append_low _ _ _ _ (by decide)]
  exact extract_all y

@[simp] theorem xField_fmtP : xField (fmtP op ra y x) = x := by
  simp only [xField, fmtP]
  rw [extract_append_low _ _ _ _ (by decide)]
  exact extract_all x

end FormatP

section Constants
variable (op : Byte) (rd ra rb rc : RegNo)

@[simp] theorem laneField_fmtR (lane : BitVec 2) :
    laneField (fmtR op rd ra (0#2 ++ lane) rc) = lane := by
  simp only [laneField, fmtR]
  repeat rw [extract_append_high _ _ _ _ (by decide)]
  rw [extract_append_low _ _ _ _ (by decide), extract_append_low _ _ _ _ (by decide)]
  exact extract_all lane

@[simp] theorem parField_fmtR (par : BitVec 1) : parField (fmtR op rd ra (0#3 ++ par) rc) = par := by
  simp only [parField, fmtR]
  repeat rw [extract_append_high _ _ _ _ (by decide)]
  rw [extract_append_low _ _ _ _ (by decide), extract_append_low _ _ _ _ (by decide)]
  exact extract_all par

@[simp] theorem imm8Field_fmtI (imm : Byte) : imm8Field (fmtI op rd ra (0#8 ++ imm)) = imm := by
  simp only [imm8Field, fmtI]
  rw [extract_append_low _ _ _ _ (by decide), extract_append_low _ _ _ _ (by decide)]
  exact extract_all imm

@[simp] theorem maskField_fmtI (mask : BitVec 4) :
    maskField (fmtI op rd ra (0#12 ++ mask)) = mask := by
  simp only [maskField, fmtI]
  rw [extract_append_low _ _ _ _ (by decide), extract_append_low _ _ _ _ (by decide)]
  exact extract_all mask

end Constants

end Sys2Proof
end

