-- ==== Sys2Proof/Laws/Memory.lean ====
section
/-! SUPPORT. The laws of the framebuffer memory: a read after a write, every other byte untouched, and
the canonical form kept. The read laws hold in every list of cells, canonical or not. -/

namespace Sys2Proof.Machine

theorem Memory.read_cons (k : Nat) (v : Byte) (t : Memory) (a : Nat) :
    Memory.read ((k, v) :: t) a = if k = a then v else t.read a := rfl

theorem Memory.erase_cons (k : Nat) (v : Byte) (t : Memory) (a : Nat) :
    Memory.erase ((k, v) :: t) a = if k = a then t.erase a else (k, v) :: t.erase a := by
  by_cases h : k = a <;> simp [Memory.erase, h]

/-- An erased index reads as unlisted; every other index reads as before. -/
theorem Memory.read_erase (m : Memory) (a q : Nat) :
    (m.erase a).read q = if q = a then Memory.unlisted else m.read q := by
  induction m with
  | nil => by_cases h : q = a <;> simp [Memory.erase, Memory.read, h]
  | cons c t ih =>
    obtain ⟨k, v⟩ := c
    rw [Memory.erase_cons, Memory.read_cons]
    by_cases hk : k = a
    · rw [if_pos hk, ih]
      by_cases hq : q = a
      · simp [hq]
      · rw [if_neg hq, if_neg hq, if_neg (fun e => hq (by rw [← e, hk]))]
    · rw [if_neg hk, Memory.read_cons, ih]
      by_cases hq : k = q
      · simp [hq, show q ≠ a from hq ▸ hk]
      · simp [hq]

/-- Inserting at an index that is not listed: it reads as inserted, every other index as before. -/
theorem Memory.read_insert (m : Memory) (a q : Nat) (v : Byte) (h : ∀ c ∈ m, c.1 ≠ a) :
    (m.insert a v).read q = if q = a then v else m.read q := by
  induction m with
  | nil =>
    by_cases hq : q = a
    · simp [Memory.insert, Memory.read, hq]
    · simp [Memory.insert, Memory.read, hq, Ne.symm hq]
  | cons c t ih =>
    obtain ⟨k, u⟩ := c
    have hk : k ≠ a := h (k, u) (by simp)
    have ih := ih fun c hc => h c (by simp [hc])
    unfold Memory.insert
    by_cases hlt : a < k
    · rw [if_pos hlt, Memory.read_cons]
      by_cases hq : q = a
      · simp [hq]
      · simp [hq, Ne.symm hq]
    · rw [if_neg hlt, Memory.read_cons, Memory.read_cons, ih]
      by_cases hq : k = q
      · simp [hq, show q ≠ a from hq ▸ hk]
      · simp [hq]

theorem Memory.mem_erase {m : Memory} {a : Nat} {c : Host.Cell} (h : c ∈ m.erase a) :
    c ∈ m ∧ c.1 ≠ a := by simpa [Memory.erase] using h

/-- A byte reads as it was last written; every other byte is unchanged (R69). -/
theorem Memory.read_write (m : Memory) (a q : Nat) (v : Byte) :
    (m.write a v).read q = if q = a then v else m.read q := by
  unfold Memory.write
  by_cases hv : v = Memory.unlisted
  · rw [if_pos hv, Memory.read_erase, hv]
  · rw [if_neg hv, Memory.read_insert _ _ _ _ fun c hc => (Memory.mem_erase hc).2, Memory.read_erase]
    by_cases hq : q = a <;> simp [hq]

/-! ### The canonical form -/

/-- The canonical form as a proposition: indices strictly rising, no byte as an unlisted one. -/
theorem Memory.wf_iff (m : Memory) :
    m.wf = true ↔ m.Pairwise (fun c d => c.1 < d.1) ∧ ∀ c ∈ m, c.2 ≠ Memory.unlisted := by
  induction m with
  | nil => simp [Memory.wf]
  | cons c t ih =>
    obtain ⟨k, v⟩ := c
    cases t with
    | nil => simp [Memory.wf]
    | cons d t =>
      obtain ⟨k', v'⟩ := d
      simp only [Memory.wf, Bool.and_eq_true, ih, decide_eq_true_eq, bne_iff_ne]
      constructor
      · rintro ⟨⟨hk, hv⟩, hp, hu⟩
        refine ⟨List.pairwise_cons.2 ⟨?_, hp⟩, ?_⟩
        · intro e he
          rcases List.mem_cons.1 he with rfl | he
          · exact hk
          · exact Nat.lt_trans hk ((List.pairwise_cons.1 hp).1 e he)
        · intro e he
          rcases List.mem_cons.1 he with rfl | he
          · exact hv
          · exact hu e he
      · rintro ⟨hp, hu⟩
        have hp' := List.pairwise_cons.1 hp
        exact ⟨⟨hp'.1 (k', v') (by simp), hu (k, v) (by simp)⟩, hp'.2, fun c hc => hu c (List.mem_cons_of_mem _ hc)⟩

/-- The reset memory is canonical. -/
@[simp] theorem Memory.wf_nil : Memory.wf [] = true := rfl

theorem Memory.mem_insert {m : Memory} {a : Nat} {v : Byte} {c : Host.Cell} :
    c ∈ m.insert a v ↔ c = (a, v) ∨ c ∈ m := by
  induction m with
  | nil => simp [Memory.insert]
  | cons d t ih =>
    obtain ⟨k, u⟩ := d
    unfold Memory.insert
    by_cases h : a < k
    · simp [h]
    · simp only [if_neg h, List.mem_cons, ih]
      tauto

theorem Memory.pairwise_insert {m : Memory} {a : Nat} {v : Byte}
    (hp : m.Pairwise fun c d => c.1 < d.1) (h : ∀ c ∈ m, c.1 ≠ a) :
    (m.insert a v).Pairwise fun c d => c.1 < d.1 := by
  induction m with
  | nil => simp [Memory.insert]
  | cons d t ih =>
    obtain ⟨k, u⟩ := d
    have hp' := List.pairwise_cons.1 hp
    unfold Memory.insert
    by_cases hlt : a < k
    · rw [if_pos hlt]
      refine List.pairwise_cons.2 ⟨?_, hp⟩
      intro e he
      rcases List.mem_cons.1 he with rfl | he
      · exact hlt
      · exact Nat.lt_trans hlt (hp'.1 e he)
    · rw [if_neg hlt]
      refine List.pairwise_cons.2 ⟨?_, ih hp'.2 fun c hc => h c (by simp [hc])⟩
      intro e he
      rcases Memory.mem_insert.1 he with rfl | he
      · have := h (k, u) (by simp)
        simp only at this ⊢
        omega
      · exact hp'.1 e he

/-- Every write keeps the canonical form. -/
theorem Memory.wf_write {m : Memory} (h : m.wf = true) (a : Nat) (v : Byte) :
    (m.write a v).wf = true := by
  rw [Memory.wf_iff] at *
  have he : (m.erase a).Pairwise (fun c d => c.1 < d.1) := h.1.filter _
  have hu : ∀ c ∈ m.erase a, c.2 ≠ Memory.unlisted := fun c hc => h.2 c (Memory.mem_erase hc).1
  unfold Memory.write
  by_cases hv : v = Memory.unlisted
  · rw [if_pos hv]
    exact ⟨he, hu⟩
  · rw [if_neg hv]
    refine ⟨Memory.pairwise_insert he fun c hc => (Memory.mem_erase hc).2, ?_⟩
    intro c hc
    rcases Memory.mem_insert.1 hc with rfl | hc
    · exact hv
    · exact hu c hc

/-- Every listed index is below `n`. -/
def Memory.Below (n : Nat) (m : Memory) : Prop := ∀ c ∈ m, c.1 < n

/-- A write below the bound keeps every listed index below it. -/
theorem Memory.below_write {m : Memory} {n : Nat} (h : m.Below n) {a : Nat} (ha : a < n) (v : Byte) :
    (m.write a v).Below n := by
  unfold Memory.write
  intro c hc
  by_cases hv : v = Memory.unlisted
  · rw [if_pos hv] at hc
    exact h c (Memory.mem_erase hc).1
  · rw [if_neg hv] at hc
    rcases Memory.mem_insert.1 hc with rfl | hc
    · exact ha
    · exact h c (Memory.mem_erase hc).1

/-- Two canonical memories that read alike are equal data. -/
theorem Memory.eq_of_read_eq {m k : Memory} (hm : m.wf = true) (hk : k.wf = true)
    (h : ∀ a, m.read a = k.read a) : m = k := by
  rw [Memory.wf_iff] at hm hk
  have absent : ∀ (t : Memory) (a : Nat), (∀ c ∈ t, a < c.1) → t.read a = Memory.unlisted := by
    intro t a ht
    induction t with
    | nil => rfl
    | cons c t ih =>
      obtain ⟨b, v⟩ := c
      have hb : a < b := ht (b, v) (by simp)
      rw [Memory.read_cons, if_neg (by omega), ih fun c hc => ht c (by simp [hc])]
  induction m generalizing k with
  | nil =>
    cases k with
    | nil => rfl
    | cons d k =>
      obtain ⟨b, u⟩ := d
      have := h b
      rw [Memory.read_cons, if_pos rfl] at this
      exact absurd this.symm (hk.2 (b, u) (by simp))
  | cons c m ih =>
    obtain ⟨a, v⟩ := c
    have pm := List.pairwise_cons.1 hm.1
    have hv : v ≠ Memory.unlisted := hm.2 (a, v) (by simp)
    cases k with
    | nil =>
      have := h a
      rw [Memory.read_cons, if_pos rfl] at this
      exact absurd this hv
    | cons d k =>
      obtain ⟨b, u⟩ := d
      have pk := List.pairwise_cons.1 hk.1
      have hu : u ≠ Memory.unlisted := hk.2 (b, u) (by simp)
      have hab : a = b := by
        rcases Nat.lt_trichotomy a b with hlt | heq | hgt
        · have := h a
          rw [Memory.read_cons, if_pos rfl, absent ((b, u) :: k) a ?_] at this
          · exact absurd this hv
          · intro c hc
            rcases List.mem_cons.1 hc with rfl | hc
            · exact hlt
            · exact Nat.lt_trans hlt (pk.1 c hc)
        · exact heq
        · have := h b
          rw [Memory.read_cons (k := b), if_pos rfl, absent ((a, v) :: m) b ?_] at this
          · exact absurd this.symm hu
          · intro c hc
            rcases List.mem_cons.1 hc with rfl | hc
            · exact hgt
            · exact Nat.lt_trans hgt (pm.1 c hc)
      subst hab
      have hvu : v = u := by simpa [Memory.read_cons] using h a
      subst hvu
      congr 1
      refine ih ⟨pm.2, fun c hc => hm.2 c (by simp [hc])⟩ ⟨pk.2, fun c hc => hk.2 c (by simp [hc])⟩ ?_
      intro q
      by_cases hq : a = q
      · subst hq
        rw [absent m a pm.1, absent k a pk.1]
      · simpa [Memory.read_cons, hq] using h q

end Sys2Proof.Machine
end

