-- ==== Sys2Proof/Laws/Framebuffer.lean ====
section
/-! SUPPORT. The laws of the framebuffer writer (45_dither_fb.md R220): where a pixel write goes, what it
does to every pixel, and that it keeps FB in form. -/

namespace Sys2Proof.Machine

open Sys2Proof.Safety

theorem sw_pos (c : Cfg) : 0 < c.sw := Nat.two_pow_pos _

theorem sh_pos (c : Cfg) : 0 < c.sh := Nat.two_pow_pos _

/-- The screen height is a whole number of pages (R5, R6). -/
theorem sh_eq_pages (c : Cfg) : c.sh = 8 * c.pages := by
  have h := c.ok.lh_ge
  obtain ⟨k, hk⟩ : ∃ k, c.lh = k + 3 := ⟨c.lh - 3, by omega⟩
  have : c.sh = 8 * 2 ^ k := by unfold Cfg.sh; rw [hk, pow_add]; omega
  unfold Cfg.pages
  omega

/-- FBSIZE is the pages times the width (R6, R60). -/
theorem fbSize_eq (c : Cfg) : c.fbSize = c.pages * c.sw := by
  unfold Cfg.fbSize
  rw [sh_eq_pages c, show c.sw * (8 * c.pages) = 8 * (c.pages * c.sw) by ring]
  omega

theorem pages_pos (c : Cfg) : 0 < c.pages := by
  have h1 := sh_eq_pages c; have h2 := sh_pos c; omega

theorem maskX_lt (c : Cfg) (x : Nat) : maskX c x < c.sw := Nat.mod_lt _ (sw_pos c)

theorem maskY_lt (c : Cfg) (y : Nat) : maskY c y < c.sh := Nat.mod_lt _ (sh_pos c)

theorem maskPage_lt (c : Cfg) (p : Nat) : maskPage c p < c.pages := Nat.mod_lt _ (pages_pos c)

/-- Page `p`, column `x` is inside FB. -/
theorem page_index_lt (c : Cfg) {p x : Nat} (hp : p < c.pages) (hx : x < c.sw) :
    p * c.sw + x < c.fbSize := by
  rw [fbSize_eq]
  calc p * c.sw + x < p * c.sw + c.sw := by omega
    _ = (p + 1) * c.sw := by ring
    _ ≤ c.pages * c.sw := Nat.mul_le_mul_right _ hp

/-- A pixel write stores inside FB (R68). -/
theorem pixIndex_lt (c : Cfg) (x y : Nat) : pixIndex c x y < c.fbSize := by
  have h1 := maskY_lt c y; have h2 := sh_eq_pages c
  exact page_index_lt c (by omega) (maskX_lt c x)

/-- A page write stores inside FB (R68). -/
theorem pageIndex_lt (c : Cfg) (x p : Nat) : pageIndex c x p < c.fbSize :=
  page_index_lt c (maskPage_lt c p) (maskX_lt c x)

@[simp] theorem getLsbD_bitByte (b : Bool) (n : Nat) : (bitByte b).getLsbD n = (b && n == 0) := by
  cases b
  · simp [bitByte]
  · by_cases h : n = 0
    · subst h; rfl
    · simp [bitByte, h]

/-- Bit `n` becomes `b`, every other bit stays (R220). -/
theorem getLsbD_putBit (old : Byte) {n k : Nat} (hn : n < 8) (hk : k < 8) (b : Bool) :
    (putBit old n b).getLsbD k = if k = n then b else old.getLsbD k := by
  have hbit : (bitByte b <<< n).getLsbD k = (b && k == n) := by
    rw [BitVec.getLsbD_shiftLeft, getLsbD_bitByte]
    rcases Nat.lt_trichotomy k n with h | h | h
    · simp [h, show k ≠ n by omega]
    · simp [h, hn]
    · have h1 : (k - n == 0) = false := beq_eq_false_iff_ne.2 (by omega)
      have h2 : (k == n) = false := beq_eq_false_iff_ne.2 (by omega)
      simp [hk, show ¬ k < n by omega, h1, h2]
  have hone : (1#8 <<< n).getLsbD k = decide (k = n) := by
    interval_cases n <;> interval_cases k <;> rfl
  unfold putBit
  rw [BitVec.getLsbD_or, BitVec.getLsbD_and, BitVec.getLsbD_not, hbit, hone]
  by_cases h : k = n <;> simp [h, hk, hn]

/-- Only the byte of the pixel is written (R220). -/
theorem read_setpix (c : Cfg) (fb : Memory) (x y : Nat) (b : Bool) (a : Nat) :
    (setpix c fb x y b).read a
      = if a = pixIndex c x y then putBit (fb.read (pixIndex c x y)) (pixBit c y) b else fb.read a :=
  Memory.read_write _ _ _ _

/-- Two pixels of the screen share byte and bit only if they are the same pixel (R60). -/
theorem pixel_index_inj (c : Cfg) {x y u v : Nat} (hx : x < c.sw) (hu : u < c.sw)
    (hi : y / 8 * c.sw + x = v / 8 * c.sw + u) : x = u ∧ y / 8 = v / 8 := by
  have h1 : (y / 8 * c.sw + x) % c.sw = x := by
    rw [Nat.mul_comm, Nat.mul_add_mod]; exact Nat.mod_eq_of_lt hx
  have h2 : (v / 8 * c.sw + u) % c.sw = u := by
    rw [Nat.mul_comm, Nat.mul_add_mod]; exact Nat.mod_eq_of_lt hu
  have hxu : x = u := by rw [← h1, ← h2, hi]
  subst hxu
  exact ⟨rfl, Nat.eq_of_mul_eq_mul_right (sw_pos c) (by omega)⟩

/-- A pixel write sets its own pixel and leaves every other pixel of the screen (R220). -/
theorem pixelAt_setpix (c : Cfg) (fb : Memory) (u v : Nat) (b : Bool) {x y : Nat} (hx : x < c.sw) :
    pixelAt c (setpix c fb u v b) x y
      = if x = maskX c u ∧ y = maskY c v then b else pixelAt c fb x y := by
  unfold pixelAt
  rw [read_setpix]
  unfold pixIndex pixBit
  by_cases hi : y / 8 * c.sw + x = maskY c v / 8 * c.sw + maskX c u
  · rw [if_pos hi, getLsbD_putBit _ (Nat.mod_lt _ (by decide)) (Nat.mod_lt _ (by decide)), ← hi]
    obtain ⟨hxu, hy⟩ := pixel_index_inj c hx (maskX_lt c u) hi
    by_cases hb : y % 8 = maskY c v % 8
    · rw [if_pos hb, if_pos ⟨hxu, by omega⟩]
    · rw [if_neg hb, if_neg (fun h => hb (by rw [h.2]))]
  · rw [if_neg hi, if_neg]
    rintro ⟨rfl, rfl⟩
    exact hi rfl

/-- A pixel write leaves every byte outside FB. -/
theorem read_setpix_outside (c : Cfg) (fb : Memory) (u v : Nat) (b : Bool) {a : Nat}
    (ha : c.fbSize ≤ a) : (setpix c fb u v b).read a = fb.read a := by
  rw [read_setpix, if_neg]
  have := pixIndex_lt c u v
  omega

/-- FB in form: canonical, indices below FBSIZE. -/
def InForm (c : Cfg) (fb : Memory) : Prop := fb.wf = true ∧ fb.Below c.fbSize

theorem inForm_write {c : Cfg} {fb : Memory} (h : InForm c fb) {a : Nat} (ha : a < c.fbSize) (v : Byte) :
    InForm c (fb.write a v) := ⟨Memory.wf_write h.1 a v, Memory.below_write h.2 ha v⟩

theorem inForm_setpix {c : Cfg} {fb : Memory} (h : InForm c fb) (x y : Nat) (b : Bool) :
    InForm c (setpix c fb x y b) := inForm_write h (pixIndex_lt c x y) _

theorem inForm_setBlock {c : Cfg} {fb : Memory} (h : InForm c fb) (x y : Nat) (m : Byte) :
    InForm c (setBlock c fb x y m) :=
  inForm_setpix (inForm_setpix (inForm_setpix (inForm_setpix h _ _ _) _ _ _) _ _ _) _ _ _

/-- A run of updates that each keep FB in form keeps it in form. -/
theorem inForm_foldl {κ : Type} {c : Cfg} {f : Memory → κ → Memory}
    (hf : ∀ fb k, InForm c fb → InForm c (f fb k)) (l : List κ) {fb : Memory} (h : InForm c fb) :
    InForm c (l.foldl f fb) := by
  induction l generalizing fb with
  | nil => exact h
  | cons k t ih => exact ih (hf _ _ h)

/-- Both strategies of REND keep FB in form (R60, R264, R265). -/
theorem inForm_renderCoarse {c : Cfg} {fb : Memory} (h : InForm c fb) (pos : V3) (k : CornerRays) :
    InForm c (renderCoarse c pos k fb) :=
  inForm_foldl (fun _ _ h => inForm_foldl (fun _ _ h => inForm_setBlock h _ _ _) _ h) _ h

theorem inForm_renderFull {c : Cfg} {fb : Memory} (h : InForm c fb) (pos : V3) (k : CornerRays) :
    InForm c (renderFull c pos k fb) :=
  inForm_foldl (fun _ _ h => inForm_foldl (fun _ _ h => inForm_setpix h _ _ _) _ h) _ h

end Sys2Proof.Machine
end

