-- ==== Sys2Proof/Laws/State.lean ====
section
/-! SUPPORT. What each update of the state does to each field: one lemma per field per update, by rfl,
and what it leaves of each register file read through its accessor. Generated from the list of updates;
no later proof unfolds a record update. -/

namespace Sys2Proof.Machine

variable (s : State)

/-! ### writeW -/

@[simp] theorem State.writeW_w (r : RegNo) (v : Int) : (s.writeW r v).w = s.w.set r.toNat (wrapW s.cfg v) r.isLt := rfl
@[simp] theorem State.writeW_n (r : RegNo) (v : Int) : (s.writeW r v).n = s.n := rfl
@[simp] theorem State.writeW_b (r : RegNo) (v : Int) : (s.writeW r v).b = s.b := rfl
@[simp] theorem State.writeW_vw (r : RegNo) (v : Int) : (s.writeW r v).vw = s.vw := rfl
@[simp] theorem State.writeW_vn (r : RegNo) (v : Int) : (s.writeW r v).vn = s.vn := rfl
@[simp] theorem State.writeW_m (r : RegNo) (v : Int) : (s.writeW r v).m = s.m := rfl
@[simp] theorem State.writeW_camPos (r : RegNo) (v : Int) : (s.writeW r v).camPos = s.camPos := rfl
@[simp] theorem State.writeW_camRot (r : RegNo) (v : Int) : (s.writeW r v).camRot = s.camRot := rfl
@[simp] theorem State.writeW_camInv (r : RegNo) (v : Int) : (s.writeW r v).camInv = s.camInv := rfl
@[simp] theorem State.writeW_pitch (r : RegNo) (v : Int) : (s.writeW r v).pitch = s.pitch := rfl
@[simp] theorem State.writeW_roll (r : RegNo) (v : Int) : (s.writeW r v).roll = s.roll := rfl
@[simp] theorem State.writeW_yaw (r : RegNo) (v : Int) : (s.writeW r v).yaw = s.yaw := rfl
@[simp] theorem State.writeW_rctrl (r : RegNo) (v : Int) : (s.writeW r v).rctrl = s.rctrl := rfl
@[simp] theorem State.writeW_status (r : RegNo) (v : Int) : (s.writeW r v).status = s.status := rfl
@[simp] theorem State.writeW_cls (r : RegNo) (v : Int) : (s.writeW r v).cls = s.cls := rfl
@[simp] theorem State.writeW_dist (r : RegNo) (v : Int) : (s.writeW r v).dist = s.dist := rfl
@[simp] theorem State.writeW_fb (r : RegNo) (v : Int) : (s.writeW r v).fb = s.fb := rfl
@[simp] theorem State.writeW_draws (r : RegNo) (v : Int) : (s.writeW r v).draws = s.draws := rfl
@[simp] theorem State.writeW_host (r : RegNo) (v : Int) : (s.writeW r v).host = s.host := rfl
@[simp] theorem State.writeW_readData (r : RegNo) (v : Int) : (s.writeW r v).readData = s.readData := rfl
@[simp] theorem State.writeW_cfg (r : RegNo) (v : Int) : (s.writeW r v).cfg = s.cfg := rfl
@[simp] theorem State.readN_writeW (r : RegNo) (v : Int) (q : RegNo) : (s.writeW r v).readN q = s.readN q := rfl
@[simp] theorem State.readB_writeW (r : RegNo) (v : Int) (q : RegNo) : (s.writeW r v).readB q = s.readB q := rfl
@[simp] theorem State.readVW_writeW (r : RegNo) (v : Int) (q : RegNo) : (s.writeW r v).readVW q = s.readVW q := rfl
@[simp] theorem State.readVN_writeW (r : RegNo) (v : Int) (q : RegNo) : (s.writeW r v).readVN q = s.readVN q := rfl
@[simp] theorem State.readM_writeW (r : RegNo) (v : Int) (q : RegNo) : (s.writeW r v).readM q = s.readM q := rfl
@[simp] theorem State.readFB_writeW (r : RegNo) (v : Int) (q : Nat) : (s.writeW r v).readFB q = s.readFB q := rfl

/-! ### writeN -/

@[simp] theorem State.writeN_w (r : RegNo) (v : Int) : (s.writeN r v).w = s.w := rfl
@[simp] theorem State.writeN_n (r : RegNo) (v : Int) : (s.writeN r v).n = s.n.set r.toNat (wrapN s.cfg v) r.isLt := rfl
@[simp] theorem State.writeN_b (r : RegNo) (v : Int) : (s.writeN r v).b = s.b := rfl
@[simp] theorem State.writeN_vw (r : RegNo) (v : Int) : (s.writeN r v).vw = s.vw := rfl
@[simp] theorem State.writeN_vn (r : RegNo) (v : Int) : (s.writeN r v).vn = s.vn := rfl
@[simp] theorem State.writeN_m (r : RegNo) (v : Int) : (s.writeN r v).m = s.m := rfl
@[simp] theorem State.writeN_camPos (r : RegNo) (v : Int) : (s.writeN r v).camPos = s.camPos := rfl
@[simp] theorem State.writeN_camRot (r : RegNo) (v : Int) : (s.writeN r v).camRot = s.camRot := rfl
@[simp] theorem State.writeN_camInv (r : RegNo) (v : Int) : (s.writeN r v).camInv = s.camInv := rfl
@[simp] theorem State.writeN_pitch (r : RegNo) (v : Int) : (s.writeN r v).pitch = s.pitch := rfl
@[simp] theorem State.writeN_roll (r : RegNo) (v : Int) : (s.writeN r v).roll = s.roll := rfl
@[simp] theorem State.writeN_yaw (r : RegNo) (v : Int) : (s.writeN r v).yaw = s.yaw := rfl
@[simp] theorem State.writeN_rctrl (r : RegNo) (v : Int) : (s.writeN r v).rctrl = s.rctrl := rfl
@[simp] theorem State.writeN_status (r : RegNo) (v : Int) : (s.writeN r v).status = s.status := rfl
@[simp] theorem State.writeN_cls (r : RegNo) (v : Int) : (s.writeN r v).cls = s.cls := rfl
@[simp] theorem State.writeN_dist (r : RegNo) (v : Int) : (s.writeN r v).dist = s.dist := rfl
@[simp] theorem State.writeN_fb (r : RegNo) (v : Int) : (s.writeN r v).fb = s.fb := rfl
@[simp] theorem State.writeN_draws (r : RegNo) (v : Int) : (s.writeN r v).draws = s.draws := rfl
@[simp] theorem State.writeN_host (r : RegNo) (v : Int) : (s.writeN r v).host = s.host := rfl
@[simp] theorem State.writeN_readData (r : RegNo) (v : Int) : (s.writeN r v).readData = s.readData := rfl
@[simp] theorem State.writeN_cfg (r : RegNo) (v : Int) : (s.writeN r v).cfg = s.cfg := rfl
@[simp] theorem State.readW_writeN (r : RegNo) (v : Int) (q : RegNo) : (s.writeN r v).readW q = s.readW q := rfl
@[simp] theorem State.readB_writeN (r : RegNo) (v : Int) (q : RegNo) : (s.writeN r v).readB q = s.readB q := rfl
@[simp] theorem State.readVW_writeN (r : RegNo) (v : Int) (q : RegNo) : (s.writeN r v).readVW q = s.readVW q := rfl
@[simp] theorem State.readVN_writeN (r : RegNo) (v : Int) (q : RegNo) : (s.writeN r v).readVN q = s.readVN q := rfl
@[simp] theorem State.readM_writeN (r : RegNo) (v : Int) (q : RegNo) : (s.writeN r v).readM q = s.readM q := rfl
@[simp] theorem State.readFB_writeN (r : RegNo) (v : Int) (q : Nat) : (s.writeN r v).readFB q = s.readFB q := rfl

/-! ### writeB -/

@[simp] theorem State.writeB_w (r : RegNo) (v : Byte) : (s.writeB r v).w = s.w := rfl
@[simp] theorem State.writeB_n (r : RegNo) (v : Byte) : (s.writeB r v).n = s.n := rfl
@[simp] theorem State.writeB_b (r : RegNo) (v : Byte) : (s.writeB r v).b = s.b.set r.toNat v r.isLt := rfl
@[simp] theorem State.writeB_vw (r : RegNo) (v : Byte) : (s.writeB r v).vw = s.vw := rfl
@[simp] theorem State.writeB_vn (r : RegNo) (v : Byte) : (s.writeB r v).vn = s.vn := rfl
@[simp] theorem State.writeB_m (r : RegNo) (v : Byte) : (s.writeB r v).m = s.m := rfl
@[simp] theorem State.writeB_camPos (r : RegNo) (v : Byte) : (s.writeB r v).camPos = s.camPos := rfl
@[simp] theorem State.writeB_camRot (r : RegNo) (v : Byte) : (s.writeB r v).camRot = s.camRot := rfl
@[simp] theorem State.writeB_camInv (r : RegNo) (v : Byte) : (s.writeB r v).camInv = s.camInv := rfl
@[simp] theorem State.writeB_pitch (r : RegNo) (v : Byte) : (s.writeB r v).pitch = s.pitch := rfl
@[simp] theorem State.writeB_roll (r : RegNo) (v : Byte) : (s.writeB r v).roll = s.roll := rfl
@[simp] theorem State.writeB_yaw (r : RegNo) (v : Byte) : (s.writeB r v).yaw = s.yaw := rfl
@[simp] theorem State.writeB_rctrl (r : RegNo) (v : Byte) : (s.writeB r v).rctrl = s.rctrl := rfl
@[simp] theorem State.writeB_status (r : RegNo) (v : Byte) : (s.writeB r v).status = s.status := rfl
@[simp] theorem State.writeB_cls (r : RegNo) (v : Byte) : (s.writeB r v).cls = s.cls := rfl
@[simp] theorem State.writeB_dist (r : RegNo) (v : Byte) : (s.writeB r v).dist = s.dist := rfl
@[simp] theorem State.writeB_fb (r : RegNo) (v : Byte) : (s.writeB r v).fb = s.fb := rfl
@[simp] theorem State.writeB_draws (r : RegNo) (v : Byte) : (s.writeB r v).draws = s.draws := rfl
@[simp] theorem State.writeB_host (r : RegNo) (v : Byte) : (s.writeB r v).host = s.host := rfl
@[simp] theorem State.writeB_readData (r : RegNo) (v : Byte) : (s.writeB r v).readData = s.readData := rfl
@[simp] theorem State.writeB_cfg (r : RegNo) (v : Byte) : (s.writeB r v).cfg = s.cfg := rfl
@[simp] theorem State.readW_writeB (r : RegNo) (v : Byte) (q : RegNo) : (s.writeB r v).readW q = s.readW q := rfl
@[simp] theorem State.readN_writeB (r : RegNo) (v : Byte) (q : RegNo) : (s.writeB r v).readN q = s.readN q := rfl
@[simp] theorem State.readVW_writeB (r : RegNo) (v : Byte) (q : RegNo) : (s.writeB r v).readVW q = s.readVW q := rfl
@[simp] theorem State.readVN_writeB (r : RegNo) (v : Byte) (q : RegNo) : (s.writeB r v).readVN q = s.readVN q := rfl
@[simp] theorem State.readM_writeB (r : RegNo) (v : Byte) (q : RegNo) : (s.writeB r v).readM q = s.readM q := rfl
@[simp] theorem State.readFB_writeB (r : RegNo) (v : Byte) (q : Nat) : (s.writeB r v).readFB q = s.readFB q := rfl

/-! ### writeVW -/

@[simp] theorem State.writeVW_w (r : RegNo) (v : V3) : (s.writeVW r v).w = s.w := rfl
@[simp] theorem State.writeVW_n (r : RegNo) (v : V3) : (s.writeVW r v).n = s.n := rfl
@[simp] theorem State.writeVW_b (r : RegNo) (v : V3) : (s.writeVW r v).b = s.b := rfl
@[simp] theorem State.writeVW_vw (r : RegNo) (v : V3) : (s.writeVW r v).vw = s.vw.set r.toNat (v.map (wrapW s.cfg)) r.isLt := rfl
@[simp] theorem State.writeVW_vn (r : RegNo) (v : V3) : (s.writeVW r v).vn = s.vn := rfl
@[simp] theorem State.writeVW_m (r : RegNo) (v : V3) : (s.writeVW r v).m = s.m := rfl
@[simp] theorem State.writeVW_camPos (r : RegNo) (v : V3) : (s.writeVW r v).camPos = s.camPos := rfl
@[simp] theorem State.writeVW_camRot (r : RegNo) (v : V3) : (s.writeVW r v).camRot = s.camRot := rfl
@[simp] theorem State.writeVW_camInv (r : RegNo) (v : V3) : (s.writeVW r v).camInv = s.camInv := rfl
@[simp] theorem State.writeVW_pitch (r : RegNo) (v : V3) : (s.writeVW r v).pitch = s.pitch := rfl
@[simp] theorem State.writeVW_roll (r : RegNo) (v : V3) : (s.writeVW r v).roll = s.roll := rfl
@[simp] theorem State.writeVW_yaw (r : RegNo) (v : V3) : (s.writeVW r v).yaw = s.yaw := rfl
@[simp] theorem State.writeVW_rctrl (r : RegNo) (v : V3) : (s.writeVW r v).rctrl = s.rctrl := rfl
@[simp] theorem State.writeVW_status (r : RegNo) (v : V3) : (s.writeVW r v).status = s.status := rfl
@[simp] theorem State.writeVW_cls (r : RegNo) (v : V3) : (s.writeVW r v).cls = s.cls := rfl
@[simp] theorem State.writeVW_dist (r : RegNo) (v : V3) : (s.writeVW r v).dist = s.dist := rfl
@[simp] theorem State.writeVW_fb (r : RegNo) (v : V3) : (s.writeVW r v).fb = s.fb := rfl
@[simp] theorem State.writeVW_draws (r : RegNo) (v : V3) : (s.writeVW r v).draws = s.draws := rfl
@[simp] theorem State.writeVW_host (r : RegNo) (v : V3) : (s.writeVW r v).host = s.host := rfl
@[simp] theorem State.writeVW_readData (r : RegNo) (v : V3) : (s.writeVW r v).readData = s.readData := rfl
@[simp] theorem State.writeVW_cfg (r : RegNo) (v : V3) : (s.writeVW r v).cfg = s.cfg := rfl
@[simp] theorem State.readW_writeVW (r : RegNo) (v : V3) (q : RegNo) : (s.writeVW r v).readW q = s.readW q := rfl
@[simp] theorem State.readN_writeVW (r : RegNo) (v : V3) (q : RegNo) : (s.writeVW r v).readN q = s.readN q := rfl
@[simp] theorem State.readB_writeVW (r : RegNo) (v : V3) (q : RegNo) : (s.writeVW r v).readB q = s.readB q := rfl
@[simp] theorem State.readVN_writeVW (r : RegNo) (v : V3) (q : RegNo) : (s.writeVW r v).readVN q = s.readVN q := rfl
@[simp] theorem State.readM_writeVW (r : RegNo) (v : V3) (q : RegNo) : (s.writeVW r v).readM q = s.readM q := rfl
@[simp] theorem State.readFB_writeVW (r : RegNo) (v : V3) (q : Nat) : (s.writeVW r v).readFB q = s.readFB q := rfl

/-! ### writeVN -/

@[simp] theorem State.writeVN_w (r : RegNo) (v : V3) : (s.writeVN r v).w = s.w := rfl
@[simp] theorem State.writeVN_n (r : RegNo) (v : V3) : (s.writeVN r v).n = s.n := rfl
@[simp] theorem State.writeVN_b (r : RegNo) (v : V3) : (s.writeVN r v).b = s.b := rfl
@[simp] theorem State.writeVN_vw (r : RegNo) (v : V3) : (s.writeVN r v).vw = s.vw := rfl
@[simp] theorem State.writeVN_vn (r : RegNo) (v : V3) : (s.writeVN r v).vn = s.vn.set r.toNat (v.map (wrapN s.cfg)) r.isLt := rfl
@[simp] theorem State.writeVN_m (r : RegNo) (v : V3) : (s.writeVN r v).m = s.m := rfl
@[simp] theorem State.writeVN_camPos (r : RegNo) (v : V3) : (s.writeVN r v).camPos = s.camPos := rfl
@[simp] theorem State.writeVN_camRot (r : RegNo) (v : V3) : (s.writeVN r v).camRot = s.camRot := rfl
@[simp] theorem State.writeVN_camInv (r : RegNo) (v : V3) : (s.writeVN r v).camInv = s.camInv := rfl
@[simp] theorem State.writeVN_pitch (r : RegNo) (v : V3) : (s.writeVN r v).pitch = s.pitch := rfl
@[simp] theorem State.writeVN_roll (r : RegNo) (v : V3) : (s.writeVN r v).roll = s.roll := rfl
@[simp] theorem State.writeVN_yaw (r : RegNo) (v : V3) : (s.writeVN r v).yaw = s.yaw := rfl
@[simp] theorem State.writeVN_rctrl (r : RegNo) (v : V3) : (s.writeVN r v).rctrl = s.rctrl := rfl
@[simp] theorem State.writeVN_status (r : RegNo) (v : V3) : (s.writeVN r v).status = s.status := rfl
@[simp] theorem State.writeVN_cls (r : RegNo) (v : V3) : (s.writeVN r v).cls = s.cls := rfl
@[simp] theorem State.writeVN_dist (r : RegNo) (v : V3) : (s.writeVN r v).dist = s.dist := rfl
@[simp] theorem State.writeVN_fb (r : RegNo) (v : V3) : (s.writeVN r v).fb = s.fb := rfl
@[simp] theorem State.writeVN_draws (r : RegNo) (v : V3) : (s.writeVN r v).draws = s.draws := rfl
@[simp] theorem State.writeVN_host (r : RegNo) (v : V3) : (s.writeVN r v).host = s.host := rfl
@[simp] theorem State.writeVN_readData (r : RegNo) (v : V3) : (s.writeVN r v).readData = s.readData := rfl
@[simp] theorem State.writeVN_cfg (r : RegNo) (v : V3) : (s.writeVN r v).cfg = s.cfg := rfl
@[simp] theorem State.readW_writeVN (r : RegNo) (v : V3) (q : RegNo) : (s.writeVN r v).readW q = s.readW q := rfl
@[simp] theorem State.readN_writeVN (r : RegNo) (v : V3) (q : RegNo) : (s.writeVN r v).readN q = s.readN q := rfl
@[simp] theorem State.readB_writeVN (r : RegNo) (v : V3) (q : RegNo) : (s.writeVN r v).readB q = s.readB q := rfl
@[simp] theorem State.readVW_writeVN (r : RegNo) (v : V3) (q : RegNo) : (s.writeVN r v).readVW q = s.readVW q := rfl
@[simp] theorem State.readM_writeVN (r : RegNo) (v : V3) (q : RegNo) : (s.writeVN r v).readM q = s.readM q := rfl
@[simp] theorem State.readFB_writeVN (r : RegNo) (v : V3) (q : Nat) : (s.writeVN r v).readFB q = s.readFB q := rfl

/-! ### writeM -/

@[simp] theorem State.writeM_w (r : RegNo) (v : Mat) : (s.writeM r v).w = s.w := rfl
@[simp] theorem State.writeM_n (r : RegNo) (v : Mat) : (s.writeM r v).n = s.n := rfl
@[simp] theorem State.writeM_b (r : RegNo) (v : Mat) : (s.writeM r v).b = s.b := rfl
@[simp] theorem State.writeM_vw (r : RegNo) (v : Mat) : (s.writeM r v).vw = s.vw := rfl
@[simp] theorem State.writeM_vn (r : RegNo) (v : Mat) : (s.writeM r v).vn = s.vn := rfl
@[simp] theorem State.writeM_m (r : RegNo) (v : Mat) : (s.writeM r v).m = s.m.set r.toNat (v.map (wrapN s.cfg)) r.isLt := rfl
@[simp] theorem State.writeM_camPos (r : RegNo) (v : Mat) : (s.writeM r v).camPos = s.camPos := rfl
@[simp] theorem State.writeM_camRot (r : RegNo) (v : Mat) : (s.writeM r v).camRot = s.camRot := rfl
@[simp] theorem State.writeM_camInv (r : RegNo) (v : Mat) : (s.writeM r v).camInv = s.camInv := rfl
@[simp] theorem State.writeM_pitch (r : RegNo) (v : Mat) : (s.writeM r v).pitch = s.pitch := rfl
@[simp] theorem State.writeM_roll (r : RegNo) (v : Mat) : (s.writeM r v).roll = s.roll := rfl
@[simp] theorem State.writeM_yaw (r : RegNo) (v : Mat) : (s.writeM r v).yaw = s.yaw := rfl
@[simp] theorem State.writeM_rctrl (r : RegNo) (v : Mat) : (s.writeM r v).rctrl = s.rctrl := rfl
@[simp] theorem State.writeM_status (r : RegNo) (v : Mat) : (s.writeM r v).status = s.status := rfl
@[simp] theorem State.writeM_cls (r : RegNo) (v : Mat) : (s.writeM r v).cls = s.cls := rfl
@[simp] theorem State.writeM_dist (r : RegNo) (v : Mat) : (s.writeM r v).dist = s.dist := rfl
@[simp] theorem State.writeM_fb (r : RegNo) (v : Mat) : (s.writeM r v).fb = s.fb := rfl
@[simp] theorem State.writeM_draws (r : RegNo) (v : Mat) : (s.writeM r v).draws = s.draws := rfl
@[simp] theorem State.writeM_host (r : RegNo) (v : Mat) : (s.writeM r v).host = s.host := rfl
@[simp] theorem State.writeM_readData (r : RegNo) (v : Mat) : (s.writeM r v).readData = s.readData := rfl
@[simp] theorem State.writeM_cfg (r : RegNo) (v : Mat) : (s.writeM r v).cfg = s.cfg := rfl
@[simp] theorem State.readW_writeM (r : RegNo) (v : Mat) (q : RegNo) : (s.writeM r v).readW q = s.readW q := rfl
@[simp] theorem State.readN_writeM (r : RegNo) (v : Mat) (q : RegNo) : (s.writeM r v).readN q = s.readN q := rfl
@[simp] theorem State.readB_writeM (r : RegNo) (v : Mat) (q : RegNo) : (s.writeM r v).readB q = s.readB q := rfl
@[simp] theorem State.readVW_writeM (r : RegNo) (v : Mat) (q : RegNo) : (s.writeM r v).readVW q = s.readVW q := rfl
@[simp] theorem State.readVN_writeM (r : RegNo) (v : Mat) (q : RegNo) : (s.writeM r v).readVN q = s.readVN q := rfl
@[simp] theorem State.readFB_writeM (r : RegNo) (v : Mat) (q : Nat) : (s.writeM r v).readFB q = s.readFB q := rfl

/-! ### writeVWLane -/

@[simp] theorem State.writeVWLane_w (r : RegNo) (l : Lane) (v : Int) : (s.writeVWLane r l v).w = s.w := rfl
@[simp] theorem State.writeVWLane_n (r : RegNo) (l : Lane) (v : Int) : (s.writeVWLane r l v).n = s.n := rfl
@[simp] theorem State.writeVWLane_b (r : RegNo) (l : Lane) (v : Int) : (s.writeVWLane r l v).b = s.b := rfl
@[simp] theorem State.writeVWLane_vw (r : RegNo) (l : Lane) (v : Int) : (s.writeVWLane r l v).vw = s.vw.set r.toNat ((s.readVW r).set l (wrapW s.cfg v)) r.isLt := rfl
@[simp] theorem State.writeVWLane_vn (r : RegNo) (l : Lane) (v : Int) : (s.writeVWLane r l v).vn = s.vn := rfl
@[simp] theorem State.writeVWLane_m (r : RegNo) (l : Lane) (v : Int) : (s.writeVWLane r l v).m = s.m := rfl
@[simp] theorem State.writeVWLane_camPos (r : RegNo) (l : Lane) (v : Int) : (s.writeVWLane r l v).camPos = s.camPos := rfl
@[simp] theorem State.writeVWLane_camRot (r : RegNo) (l : Lane) (v : Int) : (s.writeVWLane r l v).camRot = s.camRot := rfl
@[simp] theorem State.writeVWLane_camInv (r : RegNo) (l : Lane) (v : Int) : (s.writeVWLane r l v).camInv = s.camInv := rfl
@[simp] theorem State.writeVWLane_pitch (r : RegNo) (l : Lane) (v : Int) : (s.writeVWLane r l v).pitch = s.pitch := rfl
@[simp] theorem State.writeVWLane_roll (r : RegNo) (l : Lane) (v : Int) : (s.writeVWLane r l v).roll = s.roll := rfl
@[simp] theorem State.writeVWLane_yaw (r : RegNo) (l : Lane) (v : Int) : (s.writeVWLane r l v).yaw = s.yaw := rfl
@[simp] theorem State.writeVWLane_rctrl (r : RegNo) (l : Lane) (v : Int) : (s.writeVWLane r l v).rctrl = s.rctrl := rfl
@[simp] theorem State.writeVWLane_status (r : RegNo) (l : Lane) (v : Int) : (s.writeVWLane r l v).status = s.status := rfl
@[simp] theorem State.writeVWLane_cls (r : RegNo) (l : Lane) (v : Int) : (s.writeVWLane r l v).cls = s.cls := rfl
@[simp] theorem State.writeVWLane_dist (r : RegNo) (l : Lane) (v : Int) : (s.writeVWLane r l v).dist = s.dist := rfl
@[simp] theorem State.writeVWLane_fb (r : RegNo) (l : Lane) (v : Int) : (s.writeVWLane r l v).fb = s.fb := rfl
@[simp] theorem State.writeVWLane_draws (r : RegNo) (l : Lane) (v : Int) : (s.writeVWLane r l v).draws = s.draws := rfl
@[simp] theorem State.writeVWLane_host (r : RegNo) (l : Lane) (v : Int) : (s.writeVWLane r l v).host = s.host := rfl
@[simp] theorem State.writeVWLane_readData (r : RegNo) (l : Lane) (v : Int) : (s.writeVWLane r l v).readData = s.readData := rfl
@[simp] theorem State.writeVWLane_cfg (r : RegNo) (l : Lane) (v : Int) : (s.writeVWLane r l v).cfg = s.cfg := rfl
@[simp] theorem State.readW_writeVWLane (r : RegNo) (l : Lane) (v : Int) (q : RegNo) : (s.writeVWLane r l v).readW q = s.readW q := rfl
@[simp] theorem State.readN_writeVWLane (r : RegNo) (l : Lane) (v : Int) (q : RegNo) : (s.writeVWLane r l v).readN q = s.readN q := rfl
@[simp] theorem State.readB_writeVWLane (r : RegNo) (l : Lane) (v : Int) (q : RegNo) : (s.writeVWLane r l v).readB q = s.readB q := rfl
@[simp] theorem State.readVN_writeVWLane (r : RegNo) (l : Lane) (v : Int) (q : RegNo) : (s.writeVWLane r l v).readVN q = s.readVN q := rfl
@[simp] theorem State.readM_writeVWLane (r : RegNo) (l : Lane) (v : Int) (q : RegNo) : (s.writeVWLane r l v).readM q = s.readM q := rfl
@[simp] theorem State.readFB_writeVWLane (r : RegNo) (l : Lane) (v : Int) (q : Nat) : (s.writeVWLane r l v).readFB q = s.readFB q := rfl

/-! ### writeVNLane -/

@[simp] theorem State.writeVNLane_w (r : RegNo) (l : Lane) (v : Int) : (s.writeVNLane r l v).w = s.w := rfl
@[simp] theorem State.writeVNLane_n (r : RegNo) (l : Lane) (v : Int) : (s.writeVNLane r l v).n = s.n := rfl
@[simp] theorem State.writeVNLane_b (r : RegNo) (l : Lane) (v : Int) : (s.writeVNLane r l v).b = s.b := rfl
@[simp] theorem State.writeVNLane_vw (r : RegNo) (l : Lane) (v : Int) : (s.writeVNLane r l v).vw = s.vw := rfl
@[simp] theorem State.writeVNLane_vn (r : RegNo) (l : Lane) (v : Int) : (s.writeVNLane r l v).vn = s.vn.set r.toNat ((s.readVN r).set l (wrapN s.cfg v)) r.isLt := rfl
@[simp] theorem State.writeVNLane_m (r : RegNo) (l : Lane) (v : Int) : (s.writeVNLane r l v).m = s.m := rfl
@[simp] theorem State.writeVNLane_camPos (r : RegNo) (l : Lane) (v : Int) : (s.writeVNLane r l v).camPos = s.camPos := rfl
@[simp] theorem State.writeVNLane_camRot (r : RegNo) (l : Lane) (v : Int) : (s.writeVNLane r l v).camRot = s.camRot := rfl
@[simp] theorem State.writeVNLane_camInv (r : RegNo) (l : Lane) (v : Int) : (s.writeVNLane r l v).camInv = s.camInv := rfl
@[simp] theorem State.writeVNLane_pitch (r : RegNo) (l : Lane) (v : Int) : (s.writeVNLane r l v).pitch = s.pitch := rfl
@[simp] theorem State.writeVNLane_roll (r : RegNo) (l : Lane) (v : Int) : (s.writeVNLane r l v).roll = s.roll := rfl
@[simp] theorem State.writeVNLane_yaw (r : RegNo) (l : Lane) (v : Int) : (s.writeVNLane r l v).yaw = s.yaw := rfl
@[simp] theorem State.writeVNLane_rctrl (r : RegNo) (l : Lane) (v : Int) : (s.writeVNLane r l v).rctrl = s.rctrl := rfl
@[simp] theorem State.writeVNLane_status (r : RegNo) (l : Lane) (v : Int) : (s.writeVNLane r l v).status = s.status := rfl
@[simp] theorem State.writeVNLane_cls (r : RegNo) (l : Lane) (v : Int) : (s.writeVNLane r l v).cls = s.cls := rfl
@[simp] theorem State.writeVNLane_dist (r : RegNo) (l : Lane) (v : Int) : (s.writeVNLane r l v).dist = s.dist := rfl
@[simp] theorem State.writeVNLane_fb (r : RegNo) (l : Lane) (v : Int) : (s.writeVNLane r l v).fb = s.fb := rfl
@[simp] theorem State.writeVNLane_draws (r : RegNo) (l : Lane) (v : Int) : (s.writeVNLane r l v).draws = s.draws := rfl
@[simp] theorem State.writeVNLane_host (r : RegNo) (l : Lane) (v : Int) : (s.writeVNLane r l v).host = s.host := rfl
@[simp] theorem State.writeVNLane_readData (r : RegNo) (l : Lane) (v : Int) : (s.writeVNLane r l v).readData = s.readData := rfl
@[simp] theorem State.writeVNLane_cfg (r : RegNo) (l : Lane) (v : Int) : (s.writeVNLane r l v).cfg = s.cfg := rfl
@[simp] theorem State.readW_writeVNLane (r : RegNo) (l : Lane) (v : Int) (q : RegNo) : (s.writeVNLane r l v).readW q = s.readW q := rfl
@[simp] theorem State.readN_writeVNLane (r : RegNo) (l : Lane) (v : Int) (q : RegNo) : (s.writeVNLane r l v).readN q = s.readN q := rfl
@[simp] theorem State.readB_writeVNLane (r : RegNo) (l : Lane) (v : Int) (q : RegNo) : (s.writeVNLane r l v).readB q = s.readB q := rfl
@[simp] theorem State.readVW_writeVNLane (r : RegNo) (l : Lane) (v : Int) (q : RegNo) : (s.writeVNLane r l v).readVW q = s.readVW q := rfl
@[simp] theorem State.readM_writeVNLane (r : RegNo) (l : Lane) (v : Int) (q : RegNo) : (s.writeVNLane r l v).readM q = s.readM q := rfl
@[simp] theorem State.readFB_writeVNLane (r : RegNo) (l : Lane) (v : Int) (q : Nat) : (s.writeVNLane r l v).readFB q = s.readFB q := rfl

/-! ### writeMLane -/

@[simp] theorem State.writeMLane_w (r : RegNo) (i j : Lane) (v : Int) : (s.writeMLane r i j v).w = s.w := rfl
@[simp] theorem State.writeMLane_n (r : RegNo) (i j : Lane) (v : Int) : (s.writeMLane r i j v).n = s.n := rfl
@[simp] theorem State.writeMLane_b (r : RegNo) (i j : Lane) (v : Int) : (s.writeMLane r i j v).b = s.b := rfl
@[simp] theorem State.writeMLane_vw (r : RegNo) (i j : Lane) (v : Int) : (s.writeMLane r i j v).vw = s.vw := rfl
@[simp] theorem State.writeMLane_vn (r : RegNo) (i j : Lane) (v : Int) : (s.writeMLane r i j v).vn = s.vn := rfl
@[simp] theorem State.writeMLane_m (r : RegNo) (i j : Lane) (v : Int) : (s.writeMLane r i j v).m = s.m.set r.toNat ((s.readM r).set i j (wrapN s.cfg v)) r.isLt := rfl
@[simp] theorem State.writeMLane_camPos (r : RegNo) (i j : Lane) (v : Int) : (s.writeMLane r i j v).camPos = s.camPos := rfl
@[simp] theorem State.writeMLane_camRot (r : RegNo) (i j : Lane) (v : Int) : (s.writeMLane r i j v).camRot = s.camRot := rfl
@[simp] theorem State.writeMLane_camInv (r : RegNo) (i j : Lane) (v : Int) : (s.writeMLane r i j v).camInv = s.camInv := rfl
@[simp] theorem State.writeMLane_pitch (r : RegNo) (i j : Lane) (v : Int) : (s.writeMLane r i j v).pitch = s.pitch := rfl
@[simp] theorem State.writeMLane_roll (r : RegNo) (i j : Lane) (v : Int) : (s.writeMLane r i j v).roll = s.roll := rfl
@[simp] theorem State.writeMLane_yaw (r : RegNo) (i j : Lane) (v : Int) : (s.writeMLane r i j v).yaw = s.yaw := rfl
@[simp] theorem State.writeMLane_rctrl (r : RegNo) (i j : Lane) (v : Int) : (s.writeMLane r i j v).rctrl = s.rctrl := rfl
@[simp] theorem State.writeMLane_status (r : RegNo) (i j : Lane) (v : Int) : (s.writeMLane r i j v).status = s.status := rfl
@[simp] theorem State.writeMLane_cls (r : RegNo) (i j : Lane) (v : Int) : (s.writeMLane r i j v).cls = s.cls := rfl
@[simp] theorem State.writeMLane_dist (r : RegNo) (i j : Lane) (v : Int) : (s.writeMLane r i j v).dist = s.dist := rfl
@[simp] theorem State.writeMLane_fb (r : RegNo) (i j : Lane) (v : Int) : (s.writeMLane r i j v).fb = s.fb := rfl
@[simp] theorem State.writeMLane_draws (r : RegNo) (i j : Lane) (v : Int) : (s.writeMLane r i j v).draws = s.draws := rfl
@[simp] theorem State.writeMLane_host (r : RegNo) (i j : Lane) (v : Int) : (s.writeMLane r i j v).host = s.host := rfl
@[simp] theorem State.writeMLane_readData (r : RegNo) (i j : Lane) (v : Int) : (s.writeMLane r i j v).readData = s.readData := rfl
@[simp] theorem State.writeMLane_cfg (r : RegNo) (i j : Lane) (v : Int) : (s.writeMLane r i j v).cfg = s.cfg := rfl
@[simp] theorem State.readW_writeMLane (r : RegNo) (i j : Lane) (v : Int) (q : RegNo) : (s.writeMLane r i j v).readW q = s.readW q := rfl
@[simp] theorem State.readN_writeMLane (r : RegNo) (i j : Lane) (v : Int) (q : RegNo) : (s.writeMLane r i j v).readN q = s.readN q := rfl
@[simp] theorem State.readB_writeMLane (r : RegNo) (i j : Lane) (v : Int) (q : RegNo) : (s.writeMLane r i j v).readB q = s.readB q := rfl
@[simp] theorem State.readVW_writeMLane (r : RegNo) (i j : Lane) (v : Int) (q : RegNo) : (s.writeMLane r i j v).readVW q = s.readVW q := rfl
@[simp] theorem State.readVN_writeMLane (r : RegNo) (i j : Lane) (v : Int) (q : RegNo) : (s.writeMLane r i j v).readVN q = s.readVN q := rfl
@[simp] theorem State.readFB_writeMLane (r : RegNo) (i j : Lane) (v : Int) (q : Nat) : (s.writeMLane r i j v).readFB q = s.readFB q := rfl

/-! ### writeCamPos -/

@[simp] theorem State.writeCamPos_w (v : V3) : (s.writeCamPos v).w = s.w := rfl
@[simp] theorem State.writeCamPos_n (v : V3) : (s.writeCamPos v).n = s.n := rfl
@[simp] theorem State.writeCamPos_b (v : V3) : (s.writeCamPos v).b = s.b := rfl
@[simp] theorem State.writeCamPos_vw (v : V3) : (s.writeCamPos v).vw = s.vw := rfl
@[simp] theorem State.writeCamPos_vn (v : V3) : (s.writeCamPos v).vn = s.vn := rfl
@[simp] theorem State.writeCamPos_m (v : V3) : (s.writeCamPos v).m = s.m := rfl
@[simp] theorem State.writeCamPos_camPos (v : V3) : (s.writeCamPos v).camPos = v.map (wrapW s.cfg) := rfl
@[simp] theorem State.writeCamPos_camRot (v : V3) : (s.writeCamPos v).camRot = s.camRot := rfl
@[simp] theorem State.writeCamPos_camInv (v : V3) : (s.writeCamPos v).camInv = s.camInv := rfl
@[simp] theorem State.writeCamPos_pitch (v : V3) : (s.writeCamPos v).pitch = s.pitch := rfl
@[simp] theorem State.writeCamPos_roll (v : V3) : (s.writeCamPos v).roll = s.roll := rfl
@[simp] theorem State.writeCamPos_yaw (v : V3) : (s.writeCamPos v).yaw = s.yaw := rfl
@[simp] theorem State.writeCamPos_rctrl (v : V3) : (s.writeCamPos v).rctrl = s.rctrl := rfl
@[simp] theorem State.writeCamPos_status (v : V3) : (s.writeCamPos v).status = s.status := rfl
@[simp] theorem State.writeCamPos_cls (v : V3) : (s.writeCamPos v).cls = s.cls := rfl
@[simp] theorem State.writeCamPos_dist (v : V3) : (s.writeCamPos v).dist = s.dist := rfl
@[simp] theorem State.writeCamPos_fb (v : V3) : (s.writeCamPos v).fb = s.fb := rfl
@[simp] theorem State.writeCamPos_draws (v : V3) : (s.writeCamPos v).draws = s.draws := rfl
@[simp] theorem State.writeCamPos_host (v : V3) : (s.writeCamPos v).host = s.host := rfl
@[simp] theorem State.writeCamPos_readData (v : V3) : (s.writeCamPos v).readData = s.readData := rfl
@[simp] theorem State.writeCamPos_cfg (v : V3) : (s.writeCamPos v).cfg = s.cfg := rfl
@[simp] theorem State.readW_writeCamPos (v : V3) (q : RegNo) : (s.writeCamPos v).readW q = s.readW q := rfl
@[simp] theorem State.readN_writeCamPos (v : V3) (q : RegNo) : (s.writeCamPos v).readN q = s.readN q := rfl
@[simp] theorem State.readB_writeCamPos (v : V3) (q : RegNo) : (s.writeCamPos v).readB q = s.readB q := rfl
@[simp] theorem State.readVW_writeCamPos (v : V3) (q : RegNo) : (s.writeCamPos v).readVW q = s.readVW q := rfl
@[simp] theorem State.readVN_writeCamPos (v : V3) (q : RegNo) : (s.writeCamPos v).readVN q = s.readVN q := rfl
@[simp] theorem State.readM_writeCamPos (v : V3) (q : RegNo) : (s.writeCamPos v).readM q = s.readM q := rfl
@[simp] theorem State.readFB_writeCamPos (v : V3) (q : Nat) : (s.writeCamPos v).readFB q = s.readFB q := rfl

/-! ### writeCamPosLane -/

@[simp] theorem State.writeCamPosLane_w (l : Lane) (v : Int) : (s.writeCamPosLane l v).w = s.w := rfl
@[simp] theorem State.writeCamPosLane_n (l : Lane) (v : Int) : (s.writeCamPosLane l v).n = s.n := rfl
@[simp] theorem State.writeCamPosLane_b (l : Lane) (v : Int) : (s.writeCamPosLane l v).b = s.b := rfl
@[simp] theorem State.writeCamPosLane_vw (l : Lane) (v : Int) : (s.writeCamPosLane l v).vw = s.vw := rfl
@[simp] theorem State.writeCamPosLane_vn (l : Lane) (v : Int) : (s.writeCamPosLane l v).vn = s.vn := rfl
@[simp] theorem State.writeCamPosLane_m (l : Lane) (v : Int) : (s.writeCamPosLane l v).m = s.m := rfl
@[simp] theorem State.writeCamPosLane_camPos (l : Lane) (v : Int) : (s.writeCamPosLane l v).camPos = s.camPos.set l (wrapW s.cfg v) := rfl
@[simp] theorem State.writeCamPosLane_camRot (l : Lane) (v : Int) : (s.writeCamPosLane l v).camRot = s.camRot := rfl
@[simp] theorem State.writeCamPosLane_camInv (l : Lane) (v : Int) : (s.writeCamPosLane l v).camInv = s.camInv := rfl
@[simp] theorem State.writeCamPosLane_pitch (l : Lane) (v : Int) : (s.writeCamPosLane l v).pitch = s.pitch := rfl
@[simp] theorem State.writeCamPosLane_roll (l : Lane) (v : Int) : (s.writeCamPosLane l v).roll = s.roll := rfl
@[simp] theorem State.writeCamPosLane_yaw (l : Lane) (v : Int) : (s.writeCamPosLane l v).yaw = s.yaw := rfl
@[simp] theorem State.writeCamPosLane_rctrl (l : Lane) (v : Int) : (s.writeCamPosLane l v).rctrl = s.rctrl := rfl
@[simp] theorem State.writeCamPosLane_status (l : Lane) (v : Int) : (s.writeCamPosLane l v).status = s.status := rfl
@[simp] theorem State.writeCamPosLane_cls (l : Lane) (v : Int) : (s.writeCamPosLane l v).cls = s.cls := rfl
@[simp] theorem State.writeCamPosLane_dist (l : Lane) (v : Int) : (s.writeCamPosLane l v).dist = s.dist := rfl
@[simp] theorem State.writeCamPosLane_fb (l : Lane) (v : Int) : (s.writeCamPosLane l v).fb = s.fb := rfl
@[simp] theorem State.writeCamPosLane_draws (l : Lane) (v : Int) : (s.writeCamPosLane l v).draws = s.draws := rfl
@[simp] theorem State.writeCamPosLane_host (l : Lane) (v : Int) : (s.writeCamPosLane l v).host = s.host := rfl
@[simp] theorem State.writeCamPosLane_readData (l : Lane) (v : Int) : (s.writeCamPosLane l v).readData = s.readData := rfl
@[simp] theorem State.writeCamPosLane_cfg (l : Lane) (v : Int) : (s.writeCamPosLane l v).cfg = s.cfg := rfl
@[simp] theorem State.readW_writeCamPosLane (l : Lane) (v : Int) (q : RegNo) : (s.writeCamPosLane l v).readW q = s.readW q := rfl
@[simp] theorem State.readN_writeCamPosLane (l : Lane) (v : Int) (q : RegNo) : (s.writeCamPosLane l v).readN q = s.readN q := rfl
@[simp] theorem State.readB_writeCamPosLane (l : Lane) (v : Int) (q : RegNo) : (s.writeCamPosLane l v).readB q = s.readB q := rfl
@[simp] theorem State.readVW_writeCamPosLane (l : Lane) (v : Int) (q : RegNo) : (s.writeCamPosLane l v).readVW q = s.readVW q := rfl
@[simp] theorem State.readVN_writeCamPosLane (l : Lane) (v : Int) (q : RegNo) : (s.writeCamPosLane l v).readVN q = s.readVN q := rfl
@[simp] theorem State.readM_writeCamPosLane (l : Lane) (v : Int) (q : RegNo) : (s.writeCamPosLane l v).readM q = s.readM q := rfl
@[simp] theorem State.readFB_writeCamPosLane (l : Lane) (v : Int) (q : Nat) : (s.writeCamPosLane l v).readFB q = s.readFB q := rfl

/-! ### writeCamRot -/

@[simp] theorem State.writeCamRot_w (v : Mat) : (s.writeCamRot v).w = s.w := rfl
@[simp] theorem State.writeCamRot_n (v : Mat) : (s.writeCamRot v).n = s.n := rfl
@[simp] theorem State.writeCamRot_b (v : Mat) : (s.writeCamRot v).b = s.b := rfl
@[simp] theorem State.writeCamRot_vw (v : Mat) : (s.writeCamRot v).vw = s.vw := rfl
@[simp] theorem State.writeCamRot_vn (v : Mat) : (s.writeCamRot v).vn = s.vn := rfl
@[simp] theorem State.writeCamRot_m (v : Mat) : (s.writeCamRot v).m = s.m := rfl
@[simp] theorem State.writeCamRot_camPos (v : Mat) : (s.writeCamRot v).camPos = s.camPos := rfl
@[simp] theorem State.writeCamRot_camRot (v : Mat) : (s.writeCamRot v).camRot = v.map (wrapN s.cfg) := rfl
@[simp] theorem State.writeCamRot_camInv (v : Mat) : (s.writeCamRot v).camInv = (mtrans v).map (wrapN s.cfg) := rfl
@[simp] theorem State.writeCamRot_pitch (v : Mat) : (s.writeCamRot v).pitch = s.pitch := rfl
@[simp] theorem State.writeCamRot_roll (v : Mat) : (s.writeCamRot v).roll = s.roll := rfl
@[simp] theorem State.writeCamRot_yaw (v : Mat) : (s.writeCamRot v).yaw = s.yaw := rfl
@[simp] theorem State.writeCamRot_rctrl (v : Mat) : (s.writeCamRot v).rctrl = s.rctrl := rfl
@[simp] theorem State.writeCamRot_status (v : Mat) : (s.writeCamRot v).status = s.status := rfl
@[simp] theorem State.writeCamRot_cls (v : Mat) : (s.writeCamRot v).cls = s.cls := rfl
@[simp] theorem State.writeCamRot_dist (v : Mat) : (s.writeCamRot v).dist = s.dist := rfl
@[simp] theorem State.writeCamRot_fb (v : Mat) : (s.writeCamRot v).fb = s.fb := rfl
@[simp] theorem State.writeCamRot_draws (v : Mat) : (s.writeCamRot v).draws = s.draws := rfl
@[simp] theorem State.writeCamRot_host (v : Mat) : (s.writeCamRot v).host = s.host := rfl
@[simp] theorem State.writeCamRot_readData (v : Mat) : (s.writeCamRot v).readData = s.readData := rfl
@[simp] theorem State.writeCamRot_cfg (v : Mat) : (s.writeCamRot v).cfg = s.cfg := rfl
@[simp] theorem State.readW_writeCamRot (v : Mat) (q : RegNo) : (s.writeCamRot v).readW q = s.readW q := rfl
@[simp] theorem State.readN_writeCamRot (v : Mat) (q : RegNo) : (s.writeCamRot v).readN q = s.readN q := rfl
@[simp] theorem State.readB_writeCamRot (v : Mat) (q : RegNo) : (s.writeCamRot v).readB q = s.readB q := rfl
@[simp] theorem State.readVW_writeCamRot (v : Mat) (q : RegNo) : (s.writeCamRot v).readVW q = s.readVW q := rfl
@[simp] theorem State.readVN_writeCamRot (v : Mat) (q : RegNo) : (s.writeCamRot v).readVN q = s.readVN q := rfl
@[simp] theorem State.readM_writeCamRot (v : Mat) (q : RegNo) : (s.writeCamRot v).readM q = s.readM q := rfl
@[simp] theorem State.readFB_writeCamRot (v : Mat) (q : Nat) : (s.writeCamRot v).readFB q = s.readFB q := rfl

/-! ### writeAngles -/

@[simp] theorem State.writeAngles_w (p r y : Byte) : (s.writeAngles p r y).w = s.w := rfl
@[simp] theorem State.writeAngles_n (p r y : Byte) : (s.writeAngles p r y).n = s.n := rfl
@[simp] theorem State.writeAngles_b (p r y : Byte) : (s.writeAngles p r y).b = s.b := rfl
@[simp] theorem State.writeAngles_vw (p r y : Byte) : (s.writeAngles p r y).vw = s.vw := rfl
@[simp] theorem State.writeAngles_vn (p r y : Byte) : (s.writeAngles p r y).vn = s.vn := rfl
@[simp] theorem State.writeAngles_m (p r y : Byte) : (s.writeAngles p r y).m = s.m := rfl
@[simp] theorem State.writeAngles_camPos (p r y : Byte) : (s.writeAngles p r y).camPos = s.camPos := rfl
@[simp] theorem State.writeAngles_camRot (p r y : Byte) : (s.writeAngles p r y).camRot = s.camRot := rfl
@[simp] theorem State.writeAngles_camInv (p r y : Byte) : (s.writeAngles p r y).camInv = s.camInv := rfl
@[simp] theorem State.writeAngles_pitch (p r y : Byte) : (s.writeAngles p r y).pitch = p := rfl
@[simp] theorem State.writeAngles_roll (p r y : Byte) : (s.writeAngles p r y).roll = r := rfl
@[simp] theorem State.writeAngles_yaw (p r y : Byte) : (s.writeAngles p r y).yaw = y := rfl
@[simp] theorem State.writeAngles_rctrl (p r y : Byte) : (s.writeAngles p r y).rctrl = s.rctrl := rfl
@[simp] theorem State.writeAngles_status (p r y : Byte) : (s.writeAngles p r y).status = s.status := rfl
@[simp] theorem State.writeAngles_cls (p r y : Byte) : (s.writeAngles p r y).cls = s.cls := rfl
@[simp] theorem State.writeAngles_dist (p r y : Byte) : (s.writeAngles p r y).dist = s.dist := rfl
@[simp] theorem State.writeAngles_fb (p r y : Byte) : (s.writeAngles p r y).fb = s.fb := rfl
@[simp] theorem State.writeAngles_draws (p r y : Byte) : (s.writeAngles p r y).draws = s.draws := rfl
@[simp] theorem State.writeAngles_host (p r y : Byte) : (s.writeAngles p r y).host = s.host := rfl
@[simp] theorem State.writeAngles_readData (p r y : Byte) : (s.writeAngles p r y).readData = s.readData := rfl
@[simp] theorem State.writeAngles_cfg (p r y : Byte) : (s.writeAngles p r y).cfg = s.cfg := rfl
@[simp] theorem State.readW_writeAngles (p r y : Byte) (q : RegNo) : (s.writeAngles p r y).readW q = s.readW q := rfl
@[simp] theorem State.readN_writeAngles (p r y : Byte) (q : RegNo) : (s.writeAngles p r y).readN q = s.readN q := rfl
@[simp] theorem State.readB_writeAngles (p r y : Byte) (q : RegNo) : (s.writeAngles p r y).readB q = s.readB q := rfl
@[simp] theorem State.readVW_writeAngles (p r y : Byte) (q : RegNo) : (s.writeAngles p r y).readVW q = s.readVW q := rfl
@[simp] theorem State.readVN_writeAngles (p r y : Byte) (q : RegNo) : (s.writeAngles p r y).readVN q = s.readVN q := rfl
@[simp] theorem State.readM_writeAngles (p r y : Byte) (q : RegNo) : (s.writeAngles p r y).readM q = s.readM q := rfl
@[simp] theorem State.readFB_writeAngles (p r y : Byte) (q : Nat) : (s.writeAngles p r y).readFB q = s.readFB q := rfl

/-! ### writeRctrl -/

@[simp] theorem State.writeRctrl_w (v : Byte) : (s.writeRctrl v).w = s.w := rfl
@[simp] theorem State.writeRctrl_n (v : Byte) : (s.writeRctrl v).n = s.n := rfl
@[simp] theorem State.writeRctrl_b (v : Byte) : (s.writeRctrl v).b = s.b := rfl
@[simp] theorem State.writeRctrl_vw (v : Byte) : (s.writeRctrl v).vw = s.vw := rfl
@[simp] theorem State.writeRctrl_vn (v : Byte) : (s.writeRctrl v).vn = s.vn := rfl
@[simp] theorem State.writeRctrl_m (v : Byte) : (s.writeRctrl v).m = s.m := rfl
@[simp] theorem State.writeRctrl_camPos (v : Byte) : (s.writeRctrl v).camPos = s.camPos := rfl
@[simp] theorem State.writeRctrl_camRot (v : Byte) : (s.writeRctrl v).camRot = s.camRot := rfl
@[simp] theorem State.writeRctrl_camInv (v : Byte) : (s.writeRctrl v).camInv = s.camInv := rfl
@[simp] theorem State.writeRctrl_pitch (v : Byte) : (s.writeRctrl v).pitch = s.pitch := rfl
@[simp] theorem State.writeRctrl_roll (v : Byte) : (s.writeRctrl v).roll = s.roll := rfl
@[simp] theorem State.writeRctrl_yaw (v : Byte) : (s.writeRctrl v).yaw = s.yaw := rfl
@[simp] theorem State.writeRctrl_rctrl (v : Byte) : (s.writeRctrl v).rctrl = v &&& 1#8 := rfl
@[simp] theorem State.writeRctrl_status (v : Byte) : (s.writeRctrl v).status = s.status := rfl
@[simp] theorem State.writeRctrl_cls (v : Byte) : (s.writeRctrl v).cls = s.cls := rfl
@[simp] theorem State.writeRctrl_dist (v : Byte) : (s.writeRctrl v).dist = s.dist := rfl
@[simp] theorem State.writeRctrl_fb (v : Byte) : (s.writeRctrl v).fb = s.fb := rfl
@[simp] theorem State.writeRctrl_draws (v : Byte) : (s.writeRctrl v).draws = s.draws := rfl
@[simp] theorem State.writeRctrl_host (v : Byte) : (s.writeRctrl v).host = s.host := rfl
@[simp] theorem State.writeRctrl_readData (v : Byte) : (s.writeRctrl v).readData = s.readData := rfl
@[simp] theorem State.writeRctrl_cfg (v : Byte) : (s.writeRctrl v).cfg = s.cfg := rfl
@[simp] theorem State.readW_writeRctrl (v : Byte) (q : RegNo) : (s.writeRctrl v).readW q = s.readW q := rfl
@[simp] theorem State.readN_writeRctrl (v : Byte) (q : RegNo) : (s.writeRctrl v).readN q = s.readN q := rfl
@[simp] theorem State.readB_writeRctrl (v : Byte) (q : RegNo) : (s.writeRctrl v).readB q = s.readB q := rfl
@[simp] theorem State.readVW_writeRctrl (v : Byte) (q : RegNo) : (s.writeRctrl v).readVW q = s.readVW q := rfl
@[simp] theorem State.readVN_writeRctrl (v : Byte) (q : RegNo) : (s.writeRctrl v).readVN q = s.readVN q := rfl
@[simp] theorem State.readM_writeRctrl (v : Byte) (q : RegNo) : (s.writeRctrl v).readM q = s.readM q := rfl
@[simp] theorem State.readFB_writeRctrl (v : Byte) (q : Nat) : (s.writeRctrl v).readFB q = s.readFB q := rfl

/-! ### writeFB -/

@[simp] theorem State.writeFB_w (i : Nat) (v : Byte) : (s.writeFB i v).w = s.w := rfl
@[simp] theorem State.writeFB_n (i : Nat) (v : Byte) : (s.writeFB i v).n = s.n := rfl
@[simp] theorem State.writeFB_b (i : Nat) (v : Byte) : (s.writeFB i v).b = s.b := rfl
@[simp] theorem State.writeFB_vw (i : Nat) (v : Byte) : (s.writeFB i v).vw = s.vw := rfl
@[simp] theorem State.writeFB_vn (i : Nat) (v : Byte) : (s.writeFB i v).vn = s.vn := rfl
@[simp] theorem State.writeFB_m (i : Nat) (v : Byte) : (s.writeFB i v).m = s.m := rfl
@[simp] theorem State.writeFB_camPos (i : Nat) (v : Byte) : (s.writeFB i v).camPos = s.camPos := rfl
@[simp] theorem State.writeFB_camRot (i : Nat) (v : Byte) : (s.writeFB i v).camRot = s.camRot := rfl
@[simp] theorem State.writeFB_camInv (i : Nat) (v : Byte) : (s.writeFB i v).camInv = s.camInv := rfl
@[simp] theorem State.writeFB_pitch (i : Nat) (v : Byte) : (s.writeFB i v).pitch = s.pitch := rfl
@[simp] theorem State.writeFB_roll (i : Nat) (v : Byte) : (s.writeFB i v).roll = s.roll := rfl
@[simp] theorem State.writeFB_yaw (i : Nat) (v : Byte) : (s.writeFB i v).yaw = s.yaw := rfl
@[simp] theorem State.writeFB_rctrl (i : Nat) (v : Byte) : (s.writeFB i v).rctrl = s.rctrl := rfl
@[simp] theorem State.writeFB_status (i : Nat) (v : Byte) : (s.writeFB i v).status = s.status := rfl
@[simp] theorem State.writeFB_cls (i : Nat) (v : Byte) : (s.writeFB i v).cls = s.cls := rfl
@[simp] theorem State.writeFB_dist (i : Nat) (v : Byte) : (s.writeFB i v).dist = s.dist := rfl
@[simp] theorem State.writeFB_fb (i : Nat) (v : Byte) : (s.writeFB i v).fb = s.fb.write i v := rfl
@[simp] theorem State.writeFB_draws (i : Nat) (v : Byte) : (s.writeFB i v).draws = s.draws := rfl
@[simp] theorem State.writeFB_host (i : Nat) (v : Byte) : (s.writeFB i v).host = s.host := rfl
@[simp] theorem State.writeFB_readData (i : Nat) (v : Byte) : (s.writeFB i v).readData = s.readData := rfl
@[simp] theorem State.writeFB_cfg (i : Nat) (v : Byte) : (s.writeFB i v).cfg = s.cfg := rfl
@[simp] theorem State.readW_writeFB (i : Nat) (v : Byte) (q : RegNo) : (s.writeFB i v).readW q = s.readW q := rfl
@[simp] theorem State.readN_writeFB (i : Nat) (v : Byte) (q : RegNo) : (s.writeFB i v).readN q = s.readN q := rfl
@[simp] theorem State.readB_writeFB (i : Nat) (v : Byte) (q : RegNo) : (s.writeFB i v).readB q = s.readB q := rfl
@[simp] theorem State.readVW_writeFB (i : Nat) (v : Byte) (q : RegNo) : (s.writeFB i v).readVW q = s.readVW q := rfl
@[simp] theorem State.readVN_writeFB (i : Nat) (v : Byte) (q : RegNo) : (s.writeFB i v).readVN q = s.readVN q := rfl
@[simp] theorem State.readM_writeFB (i : Nat) (v : Byte) (q : RegNo) : (s.writeFB i v).readM q = s.readM q := rfl

/-! ### takeIllegal -/

@[simp] theorem State.takeIllegal_w : (s.takeIllegal).w = s.w := rfl
@[simp] theorem State.takeIllegal_n : (s.takeIllegal).n = s.n := rfl
@[simp] theorem State.takeIllegal_b : (s.takeIllegal).b = s.b := rfl
@[simp] theorem State.takeIllegal_vw : (s.takeIllegal).vw = s.vw := rfl
@[simp] theorem State.takeIllegal_vn : (s.takeIllegal).vn = s.vn := rfl
@[simp] theorem State.takeIllegal_m : (s.takeIllegal).m = s.m := rfl
@[simp] theorem State.takeIllegal_camPos : (s.takeIllegal).camPos = s.camPos := rfl
@[simp] theorem State.takeIllegal_camRot : (s.takeIllegal).camRot = s.camRot := rfl
@[simp] theorem State.takeIllegal_camInv : (s.takeIllegal).camInv = s.camInv := rfl
@[simp] theorem State.takeIllegal_pitch : (s.takeIllegal).pitch = s.pitch := rfl
@[simp] theorem State.takeIllegal_roll : (s.takeIllegal).roll = s.roll := rfl
@[simp] theorem State.takeIllegal_yaw : (s.takeIllegal).yaw = s.yaw := rfl
@[simp] theorem State.takeIllegal_rctrl : (s.takeIllegal).rctrl = s.rctrl := rfl
@[simp] theorem State.takeIllegal_status : (s.takeIllegal).status = s.status ||| 1#8 := rfl
@[simp] theorem State.takeIllegal_cls : (s.takeIllegal).cls = s.cls := rfl
@[simp] theorem State.takeIllegal_dist : (s.takeIllegal).dist = s.dist := rfl
@[simp] theorem State.takeIllegal_fb : (s.takeIllegal).fb = s.fb := rfl
@[simp] theorem State.takeIllegal_draws : (s.takeIllegal).draws = s.draws := rfl
@[simp] theorem State.takeIllegal_host : (s.takeIllegal).host = s.host := rfl
@[simp] theorem State.takeIllegal_readData : (s.takeIllegal).readData = s.readData := rfl
@[simp] theorem State.takeIllegal_cfg : (s.takeIllegal).cfg = s.cfg := rfl
@[simp] theorem State.readW_takeIllegal (q : RegNo) : (s.takeIllegal).readW q = s.readW q := rfl
@[simp] theorem State.readN_takeIllegal (q : RegNo) : (s.takeIllegal).readN q = s.readN q := rfl
@[simp] theorem State.readB_takeIllegal (q : RegNo) : (s.takeIllegal).readB q = s.readB q := rfl
@[simp] theorem State.readVW_takeIllegal (q : RegNo) : (s.takeIllegal).readVW q = s.readVW q := rfl
@[simp] theorem State.readVN_takeIllegal (q : RegNo) : (s.takeIllegal).readVN q = s.readVN q := rfl
@[simp] theorem State.readM_takeIllegal (q : RegNo) : (s.takeIllegal).readM q = s.readM q := rfl
@[simp] theorem State.readFB_takeIllegal (q : Nat) : (s.takeIllegal).readFB q = s.readFB q := rfl

/-! ### drawn -/

@[simp] theorem State.drawn_w : (s.drawn).w = s.w := rfl
@[simp] theorem State.drawn_n : (s.drawn).n = s.n := rfl
@[simp] theorem State.drawn_b : (s.drawn).b = s.b := rfl
@[simp] theorem State.drawn_vw : (s.drawn).vw = s.vw := rfl
@[simp] theorem State.drawn_vn : (s.drawn).vn = s.vn := rfl
@[simp] theorem State.drawn_m : (s.drawn).m = s.m := rfl
@[simp] theorem State.drawn_camPos : (s.drawn).camPos = s.camPos := rfl
@[simp] theorem State.drawn_camRot : (s.drawn).camRot = s.camRot := rfl
@[simp] theorem State.drawn_camInv : (s.drawn).camInv = s.camInv := rfl
@[simp] theorem State.drawn_pitch : (s.drawn).pitch = s.pitch := rfl
@[simp] theorem State.drawn_roll : (s.drawn).roll = s.roll := rfl
@[simp] theorem State.drawn_yaw : (s.drawn).yaw = s.yaw := rfl
@[simp] theorem State.drawn_rctrl : (s.drawn).rctrl = s.rctrl := rfl
@[simp] theorem State.drawn_status : (s.drawn).status = s.status := rfl
@[simp] theorem State.drawn_cls : (s.drawn).cls = s.cls := rfl
@[simp] theorem State.drawn_dist : (s.drawn).dist = s.dist := rfl
@[simp] theorem State.drawn_fb : (s.drawn).fb = s.fb := rfl
@[simp] theorem State.drawn_draws : (s.drawn).draws = s.draws + 1 := rfl
@[simp] theorem State.drawn_host : (s.drawn).host = s.host := rfl
@[simp] theorem State.drawn_readData : (s.drawn).readData = s.readData := rfl
@[simp] theorem State.drawn_cfg : (s.drawn).cfg = s.cfg := rfl
@[simp] theorem State.readW_drawn (q : RegNo) : (s.drawn).readW q = s.readW q := rfl
@[simp] theorem State.readN_drawn (q : RegNo) : (s.drawn).readN q = s.readN q := rfl
@[simp] theorem State.readB_drawn (q : RegNo) : (s.drawn).readB q = s.readB q := rfl
@[simp] theorem State.readVW_drawn (q : RegNo) : (s.drawn).readVW q = s.readVW q := rfl
@[simp] theorem State.readVN_drawn (q : RegNo) : (s.drawn).readVN q = s.readVN q := rfl
@[simp] theorem State.readM_drawn (q : RegNo) : (s.drawn).readM q = s.readM q := rfl
@[simp] theorem State.readFB_drawn (q : Nat) : (s.drawn).readFB q = s.readFB q := rfl

/-! ### setCls -/

@[simp] theorem State.setCls_w (k : RayClass) : (s.setCls k).w = s.w := rfl
@[simp] theorem State.setCls_n (k : RayClass) : (s.setCls k).n = s.n := rfl
@[simp] theorem State.setCls_b (k : RayClass) : (s.setCls k).b = s.b := rfl
@[simp] theorem State.setCls_vw (k : RayClass) : (s.setCls k).vw = s.vw := rfl
@[simp] theorem State.setCls_vn (k : RayClass) : (s.setCls k).vn = s.vn := rfl
@[simp] theorem State.setCls_m (k : RayClass) : (s.setCls k).m = s.m := rfl
@[simp] theorem State.setCls_camPos (k : RayClass) : (s.setCls k).camPos = s.camPos := rfl
@[simp] theorem State.setCls_camRot (k : RayClass) : (s.setCls k).camRot = s.camRot := rfl
@[simp] theorem State.setCls_camInv (k : RayClass) : (s.setCls k).camInv = s.camInv := rfl
@[simp] theorem State.setCls_pitch (k : RayClass) : (s.setCls k).pitch = s.pitch := rfl
@[simp] theorem State.setCls_roll (k : RayClass) : (s.setCls k).roll = s.roll := rfl
@[simp] theorem State.setCls_yaw (k : RayClass) : (s.setCls k).yaw = s.yaw := rfl
@[simp] theorem State.setCls_rctrl (k : RayClass) : (s.setCls k).rctrl = s.rctrl := rfl
@[simp] theorem State.setCls_status (k : RayClass) : (s.setCls k).status = s.status := rfl
@[simp] theorem State.setCls_cls (k : RayClass) : (s.setCls k).cls = classCode k := rfl
@[simp] theorem State.setCls_dist (k : RayClass) : (s.setCls k).dist = s.dist := rfl
@[simp] theorem State.setCls_fb (k : RayClass) : (s.setCls k).fb = s.fb := rfl
@[simp] theorem State.setCls_draws (k : RayClass) : (s.setCls k).draws = s.draws := rfl
@[simp] theorem State.setCls_host (k : RayClass) : (s.setCls k).host = s.host := rfl
@[simp] theorem State.setCls_readData (k : RayClass) : (s.setCls k).readData = s.readData := rfl
@[simp] theorem State.setCls_cfg (k : RayClass) : (s.setCls k).cfg = s.cfg := rfl
@[simp] theorem State.readW_setCls (k : RayClass) (q : RegNo) : (s.setCls k).readW q = s.readW q := rfl
@[simp] theorem State.readN_setCls (k : RayClass) (q : RegNo) : (s.setCls k).readN q = s.readN q := rfl
@[simp] theorem State.readB_setCls (k : RayClass) (q : RegNo) : (s.setCls k).readB q = s.readB q := rfl
@[simp] theorem State.readVW_setCls (k : RayClass) (q : RegNo) : (s.setCls k).readVW q = s.readVW q := rfl
@[simp] theorem State.readVN_setCls (k : RayClass) (q : RegNo) : (s.setCls k).readVN q = s.readVN q := rfl
@[simp] theorem State.readM_setCls (k : RayClass) (q : RegNo) : (s.setCls k).readM q = s.readM q := rfl
@[simp] theorem State.readFB_setCls (k : RayClass) (q : Nat) : (s.setCls k).readFB q = s.readFB q := rfl

/-! ### setDist -/

@[simp] theorem State.setDist_w (d : Int) : (s.setDist d).w = s.w := rfl
@[simp] theorem State.setDist_n (d : Int) : (s.setDist d).n = s.n := rfl
@[simp] theorem State.setDist_b (d : Int) : (s.setDist d).b = s.b := rfl
@[simp] theorem State.setDist_vw (d : Int) : (s.setDist d).vw = s.vw := rfl
@[simp] theorem State.setDist_vn (d : Int) : (s.setDist d).vn = s.vn := rfl
@[simp] theorem State.setDist_m (d : Int) : (s.setDist d).m = s.m := rfl
@[simp] theorem State.setDist_camPos (d : Int) : (s.setDist d).camPos = s.camPos := rfl
@[simp] theorem State.setDist_camRot (d : Int) : (s.setDist d).camRot = s.camRot := rfl
@[simp] theorem State.setDist_camInv (d : Int) : (s.setDist d).camInv = s.camInv := rfl
@[simp] theorem State.setDist_pitch (d : Int) : (s.setDist d).pitch = s.pitch := rfl
@[simp] theorem State.setDist_roll (d : Int) : (s.setDist d).roll = s.roll := rfl
@[simp] theorem State.setDist_yaw (d : Int) : (s.setDist d).yaw = s.yaw := rfl
@[simp] theorem State.setDist_rctrl (d : Int) : (s.setDist d).rctrl = s.rctrl := rfl
@[simp] theorem State.setDist_status (d : Int) : (s.setDist d).status = s.status := rfl
@[simp] theorem State.setDist_cls (d : Int) : (s.setDist d).cls = s.cls := rfl
@[simp] theorem State.setDist_dist (d : Int) : (s.setDist d).dist = wrapW s.cfg d := rfl
@[simp] theorem State.setDist_fb (d : Int) : (s.setDist d).fb = s.fb := rfl
@[simp] theorem State.setDist_draws (d : Int) : (s.setDist d).draws = s.draws := rfl
@[simp] theorem State.setDist_host (d : Int) : (s.setDist d).host = s.host := rfl
@[simp] theorem State.setDist_readData (d : Int) : (s.setDist d).readData = s.readData := rfl
@[simp] theorem State.setDist_cfg (d : Int) : (s.setDist d).cfg = s.cfg := rfl
@[simp] theorem State.readW_setDist (d : Int) (q : RegNo) : (s.setDist d).readW q = s.readW q := rfl
@[simp] theorem State.readN_setDist (d : Int) (q : RegNo) : (s.setDist d).readN q = s.readN q := rfl
@[simp] theorem State.readB_setDist (d : Int) (q : RegNo) : (s.setDist d).readB q = s.readB q := rfl
@[simp] theorem State.readVW_setDist (d : Int) (q : RegNo) : (s.setDist d).readVW q = s.readVW q := rfl
@[simp] theorem State.readVN_setDist (d : Int) (q : RegNo) : (s.setDist d).readVN q = s.readVN q := rfl
@[simp] theorem State.readM_setDist (d : Int) (q : RegNo) : (s.setDist d).readM q = s.readM q := rfl
@[simp] theorem State.readFB_setDist (d : Int) (q : Nat) : (s.setDist d).readFB q = s.readFB q := rfl

/-! ### reply -/

@[simp] theorem State.reply_w (v : Int) : (s.reply v).w = s.w := rfl
@[simp] theorem State.reply_n (v : Int) : (s.reply v).n = s.n := rfl
@[simp] theorem State.reply_b (v : Int) : (s.reply v).b = s.b := rfl
@[simp] theorem State.reply_vw (v : Int) : (s.reply v).vw = s.vw := rfl
@[simp] theorem State.reply_vn (v : Int) : (s.reply v).vn = s.vn := rfl
@[simp] theorem State.reply_m (v : Int) : (s.reply v).m = s.m := rfl
@[simp] theorem State.reply_camPos (v : Int) : (s.reply v).camPos = s.camPos := rfl
@[simp] theorem State.reply_camRot (v : Int) : (s.reply v).camRot = s.camRot := rfl
@[simp] theorem State.reply_camInv (v : Int) : (s.reply v).camInv = s.camInv := rfl
@[simp] theorem State.reply_pitch (v : Int) : (s.reply v).pitch = s.pitch := rfl
@[simp] theorem State.reply_roll (v : Int) : (s.reply v).roll = s.roll := rfl
@[simp] theorem State.reply_yaw (v : Int) : (s.reply v).yaw = s.yaw := rfl
@[simp] theorem State.reply_rctrl (v : Int) : (s.reply v).rctrl = s.rctrl := rfl
@[simp] theorem State.reply_status (v : Int) : (s.reply v).status = s.status := rfl
@[simp] theorem State.reply_cls (v : Int) : (s.reply v).cls = s.cls := rfl
@[simp] theorem State.reply_dist (v : Int) : (s.reply v).dist = s.dist := rfl
@[simp] theorem State.reply_fb (v : Int) : (s.reply v).fb = s.fb := rfl
@[simp] theorem State.reply_draws (v : Int) : (s.reply v).draws = s.draws := rfl
@[simp] theorem State.reply_host (v : Int) : (s.reply v).host = s.host := rfl
@[simp] theorem State.reply_readData (v : Int) : (s.reply v).readData = some v := rfl
@[simp] theorem State.reply_cfg (v : Int) : (s.reply v).cfg = s.cfg := rfl
@[simp] theorem State.readW_reply (v : Int) (q : RegNo) : (s.reply v).readW q = s.readW q := rfl
@[simp] theorem State.readN_reply (v : Int) (q : RegNo) : (s.reply v).readN q = s.readN q := rfl
@[simp] theorem State.readB_reply (v : Int) (q : RegNo) : (s.reply v).readB q = s.readB q := rfl
@[simp] theorem State.readVW_reply (v : Int) (q : RegNo) : (s.reply v).readVW q = s.readVW q := rfl
@[simp] theorem State.readVN_reply (v : Int) (q : RegNo) : (s.reply v).readVN q = s.readVN q := rfl
@[simp] theorem State.readM_reply (v : Int) (q : RegNo) : (s.reply v).readM q = s.readM q := rfl
@[simp] theorem State.readFB_reply (v : Int) (q : Nat) : (s.reply v).readFB q = s.readFB q := rfl

/-! ### setDistIf -/

@[simp] theorem State.setDistIf_w (d : Option Int) : (s.setDistIf d).w = s.w := by cases d <;> rfl
@[simp] theorem State.setDistIf_n (d : Option Int) : (s.setDistIf d).n = s.n := by cases d <;> rfl
@[simp] theorem State.setDistIf_b (d : Option Int) : (s.setDistIf d).b = s.b := by cases d <;> rfl
@[simp] theorem State.setDistIf_vw (d : Option Int) : (s.setDistIf d).vw = s.vw := by cases d <;> rfl
@[simp] theorem State.setDistIf_vn (d : Option Int) : (s.setDistIf d).vn = s.vn := by cases d <;> rfl
@[simp] theorem State.setDistIf_m (d : Option Int) : (s.setDistIf d).m = s.m := by cases d <;> rfl
@[simp] theorem State.setDistIf_camPos (d : Option Int) : (s.setDistIf d).camPos = s.camPos := by cases d <;> rfl
@[simp] theorem State.setDistIf_camRot (d : Option Int) : (s.setDistIf d).camRot = s.camRot := by cases d <;> rfl
@[simp] theorem State.setDistIf_camInv (d : Option Int) : (s.setDistIf d).camInv = s.camInv := by cases d <;> rfl
@[simp] theorem State.setDistIf_pitch (d : Option Int) : (s.setDistIf d).pitch = s.pitch := by cases d <;> rfl
@[simp] theorem State.setDistIf_roll (d : Option Int) : (s.setDistIf d).roll = s.roll := by cases d <;> rfl
@[simp] theorem State.setDistIf_yaw (d : Option Int) : (s.setDistIf d).yaw = s.yaw := by cases d <;> rfl
@[simp] theorem State.setDistIf_rctrl (d : Option Int) : (s.setDistIf d).rctrl = s.rctrl := by cases d <;> rfl
@[simp] theorem State.setDistIf_status (d : Option Int) : (s.setDistIf d).status = s.status := by cases d <;> rfl
@[simp] theorem State.setDistIf_cls (d : Option Int) : (s.setDistIf d).cls = s.cls := by cases d <;> rfl
@[simp] theorem State.setDistIf_fb (d : Option Int) : (s.setDistIf d).fb = s.fb := by cases d <;> rfl
@[simp] theorem State.setDistIf_draws (d : Option Int) : (s.setDistIf d).draws = s.draws := by cases d <;> rfl
@[simp] theorem State.setDistIf_host (d : Option Int) : (s.setDistIf d).host = s.host := by cases d <;> rfl
@[simp] theorem State.setDistIf_readData (d : Option Int) : (s.setDistIf d).readData = s.readData := by cases d <;> rfl
@[simp] theorem State.setDistIf_cfg (d : Option Int) : (s.setDistIf d).cfg = s.cfg := by cases d <;> rfl
@[simp] theorem State.readW_setDistIf (d : Option Int) (q : RegNo) : (s.setDistIf d).readW q = s.readW q := by cases d <;> rfl
@[simp] theorem State.readN_setDistIf (d : Option Int) (q : RegNo) : (s.setDistIf d).readN q = s.readN q := by cases d <;> rfl
@[simp] theorem State.readB_setDistIf (d : Option Int) (q : RegNo) : (s.setDistIf d).readB q = s.readB q := by cases d <;> rfl
@[simp] theorem State.readVW_setDistIf (d : Option Int) (q : RegNo) : (s.setDistIf d).readVW q = s.readVW q := by cases d <;> rfl
@[simp] theorem State.readVN_setDistIf (d : Option Int) (q : RegNo) : (s.setDistIf d).readVN q = s.readVN q := by cases d <;> rfl
@[simp] theorem State.readM_setDistIf (d : Option Int) (q : RegNo) : (s.setDistIf d).readM q = s.readM q := by cases d <;> rfl
@[simp] theorem State.readFB_setDistIf (d : Option Int) (q : Nat) : (s.setDistIf d).readFB q = s.readFB q := by cases d <;> rfl

@[simp] theorem State.setDistIf_some (d : Int) : s.setDistIf (some d) = s.setDist d := rfl
@[simp] theorem State.setDistIf_none : s.setDistIf none = s := rfl

end Sys2Proof.Machine
end

