-- ==== Sys2Proof/Laws/Registers.lean ====
section
/-! SUPPORT. Read after write in each register file: the register written holds the wrapped value,
every other register what it held. -/

namespace Sys2Proof.Machine

variable (s : State)

/-- Reading a 16-entry file after one entry is set. -/
theorem get_set_file {α : Type} (v : Vector α 16) (r q : RegNo) (a : α) :
    (v.set r.toNat a r.isLt)[q.toNat]'q.isLt = if q = r then a else v[q.toNat]'q.isLt := by
  rw [Vector.getElem_set]
  by_cases h : q = r
  · simp [h]
  · have h' : r.toNat ≠ q.toNat := fun e => h (BitVec.eq_of_toNat_eq e.symm)
    simp [h, h']

theorem State.readW_writeW (r q : RegNo) (v : Int) :
    (s.writeW r v).readW q = if q = r then wrapW s.cfg v else s.readW q := get_set_file _ _ _ _

theorem State.readN_writeN (r q : RegNo) (v : Int) :
    (s.writeN r v).readN q = if q = r then wrapN s.cfg v else s.readN q := get_set_file _ _ _ _

theorem State.readB_writeB (r q : RegNo) (v : Byte) :
    (s.writeB r v).readB q = if q = r then v else s.readB q := get_set_file _ _ _ _

theorem State.readVW_writeVW (r q : RegNo) (v : V3) :
    (s.writeVW r v).readVW q = if q = r then v.map (wrapW s.cfg) else s.readVW q :=
  get_set_file _ _ _ _

theorem State.readVN_writeVN (r q : RegNo) (v : V3) :
    (s.writeVN r v).readVN q = if q = r then v.map (wrapN s.cfg) else s.readVN q :=
  get_set_file _ _ _ _

theorem State.readM_writeM (r q : RegNo) (v : Mat) :
    (s.writeM r v).readM q = if q = r then v.map (wrapN s.cfg) else s.readM q := get_set_file _ _ _ _

theorem State.readVW_writeVWLane (r q : RegNo) (l : Lane) (v : Int) :
    (s.writeVWLane r l v).readVW q
      = if q = r then (s.readVW r).set l (wrapW s.cfg v) else s.readVW q := get_set_file _ _ _ _

theorem State.readVN_writeVNLane (r q : RegNo) (l : Lane) (v : Int) :
    (s.writeVNLane r l v).readVN q
      = if q = r then (s.readVN r).set l (wrapN s.cfg v) else s.readVN q := get_set_file _ _ _ _

theorem State.readM_writeMLane (r q : RegNo) (i j : Lane) (v : Int) :
    (s.writeMLane r i j v).readM q
      = if q = r then (s.readM r).set i j (wrapN s.cfg v) else s.readM q := get_set_file _ _ _ _

/-! ### Lanes -/

theorem V3.get_set (v : V3) (l k : Lane) (a : Int) :
    (v.set l a).get k = if k = l then a else v.get k := by
  fin_cases l <;> fin_cases k <;> rfl

@[simp] theorem V3.get_map (f : Int → Int) (v : V3) (l : Lane) : (v.map f).get l = f (v.get l) := by
  fin_cases l <;> rfl

@[simp] theorem V3.get_zipWith (f : Int → Int → Int) (u v : V3) (l : Lane) :
    (V3.zipWith f u v).get l = f (u.get l) (v.get l) := by fin_cases l <;> rfl

@[simp] theorem V3.get_ofFn (f : Lane → Int) (l : Lane) : (V3.ofFn f).get l = f l := by
  fin_cases l <;> rfl

@[simp] theorem Mat.get_ofFn (f : Lane → Lane → Int) (i j : Lane) : (Mat.ofFn f).get i j = f i j := by
  fin_cases i <;> fin_cases j <;> rfl

@[simp] theorem Mat.get_map (f : Int → Int) (m : Mat) (i j : Lane) :
    (m.map f).get i j = f (m.get i j) := by fin_cases i <;> fin_cases j <;> rfl

theorem Mat.get_set (m : Mat) (i j i' j' : Lane) (a : Int) :
    (m.set i j a).get i' j' = if i' = i ∧ j' = j then a else m.get i' j' := by
  fin_cases i <;> fin_cases j <;> fin_cases i' <;> fin_cases j' <;> rfl

/-- Two vectors with the same lanes are equal. -/
theorem V3.ext_get {u v : V3} (h : ∀ l, u.get l = v.get l) : u = v := by
  have h0 := h 0; have h1 := h 1; have h2 := h 2
  cases u; cases v
  simp_all [V3.get]

/-- Two matrices with the same elements are equal. -/
theorem Mat.ext_get {a b : Mat} (h : ∀ i j, a.get i j = b.get i j) : a = b := by
  have r (i : Lane) : a.row i = b.row i := V3.ext_get (h i)
  have r0 := r 0; have r1 := r 1; have r2 := r 2
  cases a; cases b
  simp_all [Mat.row]

/-- The transpose swaps rows and columns (R189). -/
@[simp] theorem get_mtrans (a : Mat) (i j : Lane) : (mtrans a).get i j = a.get j i := by simp [mtrans]

/-- What a command with a lane operand can do: the effect of a legal lane, or the illegal word's. -/
theorem withLane_cases (f : BitVec 2) (s : State) (effect : Lane → State) :
    (∃ l : Lane, f = BitVec.ofNat 2 l ∧ withLane f s effect = .next (effect l)) ∨
      (f = 3#2 ∧ withLane f s effect = .next s.takeIllegal) := by
  have h : f = 0#2 ∨ f = 1#2 ∨ f = 2#2 ∨ f = 3#2 := by
    revert f; decide
  rcases h with rfl | rfl | rfl | rfl
  · exact .inl ⟨0, rfl, rfl⟩
  · exact .inl ⟨1, rfl, rfl⟩
  · exact .inl ⟨2, rfl, rfl⟩
  · exact .inr ⟨rfl, rfl⟩

end Sys2Proof.Machine
end

