-- ==== Sys2Proof/Laws/Operations.lean ====
section
/-! SUPPORT. What the shared operations of the command families answer, each said once: the
classification of a ray, the lanes of a wrapped write, the sum over a matrix row. -/

namespace Sys2Proof.Machine

open Sys2Proof.Safety

/-- wrapW meets its description (R9). -/
theorem isWrapW_wrapW (c : Cfg) (z : Int) : IsWrapW c z (wrapW c z) :=
  ⟨fits_wrapW c z, dvd_wrap_sub _ z⟩

/-- wrapN meets its description (R9). -/
theorem isWrapN_wrapN (c : Cfg) (z : Int) : IsWrapN c z (wrapN c z) :=
  ⟨fits_wrapN c z, dvd_wrap_sub _ z⟩

/-- The description of R9 has one solution. -/
theorem eq_wrapW_of_isWrapW {c : Cfg} {z v : Int} (h : IsWrapW c z v) : v = wrapW c z :=
  eq_wrap_of_fits_of_dvd (one_le_ww c) h.1 h.2

theorem eq_wrapN_of_isWrapN {c : Cfg} {z v : Int} (h : IsWrapN c z v) : v = wrapN c z :=
  eq_wrap_of_fits_of_dvd (one_le_nw c) h.1 h.2

/-- What is the wrap of a wrap is the wrap of its argument (R10). -/
theorem isWrapW_of_wrapW {c : Cfg} {z v : Int} (h : IsWrapW c (wrapW c z) v) : IsWrapW c z v :=
  ⟨h.1, by
    have := dvd_add h.2 (dvd_wrap_sub c.ww z)
    rwa [wrapW, sub_add_sub_cancel] at this⟩

theorem isWrapN_of_wrapN {c : Cfg} {z v : Int} (h : IsWrapN c (wrapN c z) v) : IsWrapN c z v :=
  ⟨h.1, by
    have := dvd_add h.2 (dvd_wrap_sub c.nw z)
    rwa [wrapN, sub_add_sub_cancel] at this⟩

/-- The class of a ray, by its y lane (R203). -/
theorem classify_cases (c : Cfg) (y : Int) :
    (y < -(c.tBand : Int) ∧ classify c y = .ground) ∨
    (-(c.tBand : Int) ≤ y ∧ y < 0 ∧ classify c y = .dead) ∨
    ((c.tBand : Int) < y ∧ classify c y = .cloud) ∨
    (0 ≤ y ∧ y ≤ (c.tBand : Int) ∧ classify c y = .sky) := by
  unfold classify
  split_ifs <;> simp <;> omega

/-- What an installed pair of matrices holds: CAM_INV is the transpose (R28). -/
theorem camInv_writeCamRot (s : State) (v : Mat) : InverseIsTranspose (s.writeCamRot v) := by
  intro i j
  simp

/-- What shading answers when no plane is hit does not depend on the position (R206, R261). -/
theorem shade_dead {c : Cfg} {d : V3} (h : classify c d.y = .dead) (p : V3) :
    shade c p d = ⟨c.groundFlat, .dead, none⟩ := by simp [shade, h]

theorem shade_sky {c : Cfg} {d : V3} (h : classify c d.y = .sky) (p : V3) :
    shade c p d = ⟨c.skyLevel, .sky, none⟩ := by simp [shade, h]

/-- Reading a VN register after RCORN's four writes (R260). -/
theorem State.readVN_writeVN_of_fits (s : State) (r q : RegNo) (v : V3)
    (h : ∀ l, Fits s.cfg.nw (v.get l)) :
    (s.writeVN r v).readVN q = if q = r then v else s.readVN q := by
  rw [State.readVN_writeVN]
  have : v.map (wrapN s.cfg) = v := V3.ext_get fun l => by rw [V3.get_map, wrapN_of_fits _ (h l)]
  rw [this]

/-- The lanes of a vector transform are narrow raw values (R189). -/
theorem fits_mvmul (c : Cfg) (v : V3) (m : Mat) (l : Lane) : Fits c.nw ((mvmul c v m).get l) := by
  rw [mvmul, V3.get_ofFn]
  exact fits_wrapN c _

/-- The elements of a matrix product are narrow raw values (R189). -/
theorem fits_mmul (c : Cfg) (a b : Mat) (i j : Lane) : Fits c.nw ((mmul c a b).get i j) := by
  rw [mmul, Mat.get_ofFn]
  exact fits_wrapN c _

/-- The lanes of an interpolation are narrow raw values (R176). -/
theorem fits_lerp (c : Cfg) (a b : V3) (k sh : Nat) (l : Lane) : Fits c.nw ((lerp c a b k sh).get l) := by
  rw [lerp, V3.get_zipWith]
  exact fits_wrapN c _

end Sys2Proof.Machine
end

