-- ==== Sys2Proof/Laws/Frames.lean ====
section
/-! SUPPORT. What each shared operation writes and what it leaves, said once (Safety's WroteW and its kin):
the write of a register of each file, of a special register, of FB, and the effect of an illegal word. -/

namespace Sys2Proof.Machine

open Sys2Proof.Safety

variable (s : State)

/-- Everything stays in a state that is the same. -/
theorem sameOutside_refl (ps : List Part) : SameOutside ps s s := by
  intro p _
  cases p <;> first | rfl | exact fun _ => rfl

/-- What stays under two updates in a row. -/
theorem SameOutside.trans {ps : List Part} {s t u : State} (h : SameOutside ps s t)
    (k : SameOutside ps t u) : SameOutside ps s u := by
  intro p hp
  have h1 := h p hp
  have h2 := k p hp
  cases p <;> simp_all [SamePart]

/-- A longer list of written parts says less. -/
theorem SameOutside.mono {ps qs : List Part} {s t : State} (h : SameOutside ps s t)
    (hq : ∀ p ∈ ps, p ∈ qs) : SameOutside qs s t := fun p hp => h p fun hm => hp (hq p hm)

/-- The write of a W register. -/
theorem wroteW_writeW (rd : RegNo) (z : Int) : WroteW rd [] (IsWrapW s.cfg z) s (s.writeW rd z) := by
  refine ⟨?_, ?_, ?_⟩
  · rw [State.readW_writeW, if_pos rfl]; exact isWrapW_wrapW _ _
  · intro q hq; rw [State.readW_writeW, if_neg hq]
  · intro p hp; cases p <;> first | exact absurd (List.mem_singleton.2 rfl) hp | rfl | exact fun _ => rfl

/-- The write of an N register. -/
theorem wroteN_writeN (rd : RegNo) (z : Int) : WroteN rd [] (IsWrapN s.cfg z) s (s.writeN rd z) := by
  refine ⟨?_, ?_, ?_⟩
  · rw [State.readN_writeN, if_pos rfl]; exact isWrapN_wrapN _ _
  · intro q hq; rw [State.readN_writeN, if_neg hq]
  · intro p hp; cases p <;> first | exact absurd (List.mem_singleton.2 rfl) hp | rfl | exact fun _ => rfl

/-- The write of a B register. -/
theorem wroteB_writeB (rd : RegNo) (v : Byte) : WroteB rd [] (fun u => u = v) s (s.writeB rd v) := by
  refine ⟨?_, ?_, ?_⟩
  · rw [State.readB_writeB, if_pos rfl]
  · intro q hq; rw [State.readB_writeB, if_neg hq]
  · intro p hp; cases p <;> first | exact absurd (List.mem_singleton.2 rfl) hp | rfl | exact fun _ => rfl

/-- The write of a VW register, lane by lane. -/
theorem wroteVW_writeVW (rd : RegNo) (v : V3) :
    WroteVW rd [] (fun u => ∀ l, IsWrapW s.cfg (v.get l) (u.get l)) s (s.writeVW rd v) := by
  refine ⟨?_, ?_, ?_⟩
  · intro l; rw [State.readVW_writeVW, if_pos rfl, V3.get_map]; exact isWrapW_wrapW _ _
  · intro q hq; rw [State.readVW_writeVW, if_neg hq]
  · intro p hp; cases p <;> first | exact absurd (List.mem_singleton.2 rfl) hp | rfl | exact fun _ => rfl

/-- The write of a VN register, lane by lane. -/
theorem wroteVN_writeVN (rd : RegNo) (v : V3) :
    WroteVN rd [] (fun u => ∀ l, IsWrapN s.cfg (v.get l) (u.get l)) s (s.writeVN rd v) := by
  refine ⟨?_, ?_, ?_⟩
  · intro l; rw [State.readVN_writeVN, if_pos rfl, V3.get_map]; exact isWrapN_wrapN _ _
  · intro q hq; rw [State.readVN_writeVN, if_neg hq]
  · intro p hp; cases p <;> first | exact absurd (List.mem_singleton.2 rfl) hp | rfl | exact fun _ => rfl

/-- The write of an M register, element by element. -/
theorem wroteM_writeM (rd : RegNo) (m : Mat) :
    WroteM rd [] (fun u => ∀ i j, IsWrapN s.cfg (m.get i j) (u.get i j)) s (s.writeM rd m) := by
  refine ⟨?_, ?_, ?_⟩
  · intro i j; rw [State.readM_writeM, if_pos rfl, Mat.get_map]; exact isWrapN_wrapN _ _
  · intro q hq; rw [State.readM_writeM, if_neg hq]
  · intro p hp; cases p <;> first | exact absurd (List.mem_singleton.2 rfl) hp | rfl | exact fun _ => rfl

/-- The write of one lane of a VW register: the other two lanes stay. -/
theorem wroteVW_writeVWLane (rd : RegNo) (l : Lane) (z : Int) :
    WroteVW rd [] (fun u => IsWrapW s.cfg z (u.get l) ∧ ∀ k, k ≠ l → u.get k = (s.readVW rd).get k) s
      (s.writeVWLane rd l z) := by
  refine ⟨⟨?_, ?_⟩, ?_, ?_⟩
  · rw [State.readVW_writeVWLane, if_pos rfl, V3.get_set, if_pos rfl]; exact isWrapW_wrapW _ _
  · intro k hk; rw [State.readVW_writeVWLane, if_pos rfl, V3.get_set, if_neg hk]
  · intro q hq; rw [State.readVW_writeVWLane, if_neg hq]
  · intro p hp; cases p <;> first | exact absurd (List.mem_singleton.2 rfl) hp | rfl | exact fun _ => rfl

/-- The write of one lane of a VN register: the other two lanes stay. -/
theorem wroteVN_writeVNLane (rd : RegNo) (l : Lane) (z : Int) :
    WroteVN rd [] (fun u => IsWrapN s.cfg z (u.get l) ∧ ∀ k, k ≠ l → u.get k = (s.readVN rd).get k) s
      (s.writeVNLane rd l z) := by
  refine ⟨⟨?_, ?_⟩, ?_, ?_⟩
  · rw [State.readVN_writeVNLane, if_pos rfl, V3.get_set, if_pos rfl]; exact isWrapN_wrapN _ _
  · intro k hk; rw [State.readVN_writeVNLane, if_pos rfl, V3.get_set, if_neg hk]
  · intro q hq; rw [State.readVN_writeVNLane, if_neg hq]
  · intro p hp; cases p <;> first | exact absurd (List.mem_singleton.2 rfl) hp | rfl | exact fun _ => rfl

/-- The write of the camera rotation: CAM_ROT and CAM_INV only. -/
theorem sameOutside_writeCamRot (m : Mat) : SameOutside [.camRot, .camInv] s (s.writeCamRot m) := by
  intro p hp; cases p <;> first | exact absurd (by decide) hp | rfl | exact fun _ => rfl

/-- The write of the camera position. -/
theorem sameOutside_writeCamPos (v : V3) : SameOutside [.camPos] s (s.writeCamPos v) := by
  intro p hp; cases p <;> first | exact absurd (by decide) hp | rfl | exact fun _ => rfl

/-- The write of the angles. -/
theorem sameOutside_writeAngles (p r y : Byte) :
    SameOutside [.pitch, .roll, .yaw] s (s.writeAngles p r y) := by
  intro p hp; cases p <;> first | exact absurd (by decide) hp | rfl | exact fun _ => rfl

/-- The write of CLS. -/
theorem sameOutside_setCls (k : RayClass) : SameOutside [.cls] s (s.setCls k) := by
  intro p hp; cases p <;> first | exact absurd (by decide) hp | rfl | exact fun _ => rfl

/-- The write of DIST. -/
theorem sameOutside_setDist (d : Int) : SameOutside [.dist] s (s.setDist d) := by
  intro p hp; cases p <;> first | exact absurd (by decide) hp | rfl | exact fun _ => rfl

/-- A new framebuffer. -/
theorem sameOutside_fb (m : Memory) : SameOutside [.fb] s { s with fb := m } := by
  intro p hp; cases p <;> first | exact absurd (by decide) hp | rfl | exact fun _ => rfl

/-- The effect of an illegal word (R104). -/
theorem onlyIllSet_takeIllegal : OnlyIllSet s s.takeIllegal := by
  refine ⟨rfl, ?_⟩
  intro p hp; cases p <;> first | exact absurd (by decide) hp | rfl | exact fun _ => rfl

end Sys2Proof.Machine
end

