-- ==== Sys2Proof/Laws/PerInstr.lean ====
section
/-! SUPPORT. The family OpcodeOf: the opcode field of a command's word is the opcode that the table of
30_encoding.md R98 gives its mnemonic; one lemma per constructor of Instr. -/

namespace Sys2Proof.Laws

/-- The column "op" of R98. -/
def opcodeOf : Instr → Byte
  | .liw _ _ => 0x01#8
  | .lin _ _ => 0x02#8
  | .lib _ _ => 0x03#8
  | .addw _ _ _ => 0x04#8
  | .addn _ _ _ => 0x05#8
  | .subw _ _ _ => 0x06#8
  | .subn _ _ _ => 0x07#8
  | .negw _ _ => 0x08#8
  | .negn _ _ => 0x09#8
  | .mulw _ _ _ => 0x0A#8
  | .muln _ _ _ => 0x0B#8
  | .mulwn _ _ _ => 0x0C#8
  | .divw _ _ _ => 0x0D#8
  | .divn _ _ _ => 0x0E#8
  | .qdiv _ _ _ => 0x0F#8
  | .cvtnw _ _ => 0x10#8
  | .cvtwn _ _ => 0x11#8
  | .clampw _ _ _ _ => 0x12#8
  | .sin _ _ => 0x13#8
  | .cos _ _ => 0x14#8
  | .addb _ _ _ => 0x15#8
  | .addib _ _ _ => 0x16#8
  | .negb _ _ => 0x17#8
  | .vaddw _ _ _ => 0x20#8
  | .vaddn _ _ _ => 0x21#8
  | .vsubw _ _ _ => 0x22#8
  | .vsubn _ _ _ => 0x23#8
  | .vscln _ _ _ => 0x24#8
  | .vsclwn _ _ _ => 0x25#8
  | .vcvtnw _ _ => 0x26#8
  | .vcrossw _ _ _ => 0x27#8
  | .vcrossn _ _ _ => 0x28#8
  | .vlerpn _ _ _ _ _ => 0x29#8
  | .vextw _ _ _ => 0x2A#8
  | .vextn _ _ _ => 0x2B#8
  | .vinsw _ _ _ => 0x2C#8
  | .vinsn _ _ _ => 0x2D#8
  | .mident _ => 0x30#8
  | .mrotx _ _ => 0x31#8
  | .mroty _ _ => 0x32#8
  | .mrotz _ _ => 0x33#8
  | .mmul _ _ _ => 0x34#8
  | .mtrans _ _ => 0x35#8
  | .mvmul _ _ _ => 0x36#8
  | .mfwd _ _ => 0x37#8
  | .rclass _ => 0x40#8
  | .rgnd _ _ _ => 0x41#8
  | .rcld _ _ _ => 0x42#8
  | .texg _ _ => 0x50#8
  | .texc _ _ => 0x51#8
  | .dqc _ _ => 0x60#8
  | .dqf _ _ _ => 0x61#8
  | .fbpix _ _ _ => 0x62#8
  | .fbblk _ _ _ => 0x63#8
  | .fbst _ _ _ => 0x64#8
  | .camrot => 0x70#8
  | .camtick _ => 0x71#8
  | .mcam _ => 0x72#8
  | .mcami _ => 0x73#8
  | .vcam _ => 0x74#8
  | .rcorn _ => 0x80#8
  | .rshade _ _ => 0x81#8
  | .rend => 0x82#8

/-- Bits 31:24 of the word are the command's opcode (R90, R98). -/
def OpcodeOf.Statement (i : Instr) : Prop := opField (encode i) = opcodeOf i

theorem OpcodeOf.liw (rd : RegNo) (imm : BitVec 16) : OpcodeOf.Statement (.liw rd imm) := opField_fmtI _ _ _ _
theorem OpcodeOf.lin (rd : RegNo) (imm : BitVec 16) : OpcodeOf.Statement (.lin rd imm) := opField_fmtI _ _ _ _
theorem OpcodeOf.lib (rd : RegNo) (imm : Byte) : OpcodeOf.Statement (.lib rd imm) := opField_fmtI _ _ _ _
theorem OpcodeOf.addw (rd ra rb : RegNo) : OpcodeOf.Statement (.addw rd ra rb) := opField_fmtR _ _ _ _ _
theorem OpcodeOf.addn (rd ra rb : RegNo) : OpcodeOf.Statement (.addn rd ra rb) := opField_fmtR _ _ _ _ _
theorem OpcodeOf.subw (rd ra rb : RegNo) : OpcodeOf.Statement (.subw rd ra rb) := opField_fmtR _ _ _ _ _
theorem OpcodeOf.subn (rd ra rb : RegNo) : OpcodeOf.Statement (.subn rd ra rb) := opField_fmtR _ _ _ _ _
theorem OpcodeOf.negw (rd ra : RegNo) : OpcodeOf.Statement (.negw rd ra) := opField_fmtR _ _ _ _ _
theorem OpcodeOf.negn (rd ra : RegNo) : OpcodeOf.Statement (.negn rd ra) := opField_fmtR _ _ _ _ _
theorem OpcodeOf.mulw (rd ra rb : RegNo) : OpcodeOf.Statement (.mulw rd ra rb) := opField_fmtR _ _ _ _ _
theorem OpcodeOf.muln (rd ra rb : RegNo) : OpcodeOf.Statement (.muln rd ra rb) := opField_fmtR _ _ _ _ _
theorem OpcodeOf.mulwn (rd ra rb : RegNo) : OpcodeOf.Statement (.mulwn rd ra rb) := opField_fmtR _ _ _ _ _
theorem OpcodeOf.divw (rd ra rb : RegNo) : OpcodeOf.Statement (.divw rd ra rb) := opField_fmtR _ _ _ _ _
theorem OpcodeOf.divn (rd ra rb : RegNo) : OpcodeOf.Statement (.divn rd ra rb) := opField_fmtR _ _ _ _ _
theorem OpcodeOf.qdiv (rd ra rb : RegNo) : OpcodeOf.Statement (.qdiv rd ra rb) := opField_fmtR _ _ _ _ _
theorem OpcodeOf.cvtnw (rd ra : RegNo) : OpcodeOf.Statement (.cvtnw rd ra) := opField_fmtR _ _ _ _ _
theorem OpcodeOf.cvtwn (rd ra : RegNo) : OpcodeOf.Statement (.cvtwn rd ra) := opField_fmtR _ _ _ _ _
theorem OpcodeOf.clampw (rd ra rb rc : RegNo) : OpcodeOf.Statement (.clampw rd ra rb rc) := opField_fmtR _ _ _ _ _
theorem OpcodeOf.sin (rd ra : RegNo) : OpcodeOf.Statement (.sin rd ra) := opField_fmtR _ _ _ _ _
theorem OpcodeOf.cos (rd ra : RegNo) : OpcodeOf.Statement (.cos rd ra) := opField_fmtR _ _ _ _ _
theorem OpcodeOf.addb (rd ra rb : RegNo) : OpcodeOf.Statement (.addb rd ra rb) := opField_fmtR _ _ _ _ _
theorem OpcodeOf.addib (rd ra : RegNo) (imm : Byte) : OpcodeOf.Statement (.addib rd ra imm) := opField_fmtI _ _ _ _
theorem OpcodeOf.negb (rd ra : RegNo) : OpcodeOf.Statement (.negb rd ra) := opField_fmtR _ _ _ _ _
theorem OpcodeOf.vaddw (rd ra rb : RegNo) : OpcodeOf.Statement (.vaddw rd ra rb) := opField_fmtR _ _ _ _ _
theorem OpcodeOf.vaddn (rd ra rb : RegNo) : OpcodeOf.Statement (.vaddn rd ra rb) := opField_fmtR _ _ _ _ _
theorem OpcodeOf.vsubw (rd ra rb : RegNo) : OpcodeOf.Statement (.vsubw rd ra rb) := opField_fmtR _ _ _ _ _
theorem OpcodeOf.vsubn (rd ra rb : RegNo) : OpcodeOf.Statement (.vsubn rd ra rb) := opField_fmtR _ _ _ _ _
theorem OpcodeOf.vscln (rd ra rb : RegNo) : OpcodeOf.Statement (.vscln rd ra rb) := opField_fmtR _ _ _ _ _
theorem OpcodeOf.vsclwn (rd ra rb : RegNo) : OpcodeOf.Statement (.vsclwn rd ra rb) := opField_fmtR _ _ _ _ _
theorem OpcodeOf.vcvtnw (rd ra : RegNo) : OpcodeOf.Statement (.vcvtnw rd ra) := opField_fmtR _ _ _ _ _
theorem OpcodeOf.vcrossw (rd ra rb : RegNo) : OpcodeOf.Statement (.vcrossw rd ra rb) := opField_fmtR _ _ _ _ _
theorem OpcodeOf.vcrossn (rd ra rb : RegNo) : OpcodeOf.Statement (.vcrossn rd ra rb) := opField_fmtR _ _ _ _ _
theorem OpcodeOf.vlerpn (rd ra rb : RegNo) (k : Byte) (sh : BitVec 4) : OpcodeOf.Statement (.vlerpn rd ra rb k sh) := opField_fmtL _ _ _ _ _ _
theorem OpcodeOf.vextw (rd ra : RegNo) (lane : BitVec 2) : OpcodeOf.Statement (.vextw rd ra lane) := opField_fmtR _ _ _ _ _
theorem OpcodeOf.vextn (rd ra : RegNo) (lane : BitVec 2) : OpcodeOf.Statement (.vextn rd ra lane) := opField_fmtR _ _ _ _ _
theorem OpcodeOf.vinsw (rd ra : RegNo) (lane : BitVec 2) : OpcodeOf.Statement (.vinsw rd ra lane) := opField_fmtR _ _ _ _ _
theorem OpcodeOf.vinsn (rd ra : RegNo) (lane : BitVec 2) : OpcodeOf.Statement (.vinsn rd ra lane) := opField_fmtR _ _ _ _ _
theorem OpcodeOf.mident (rd : RegNo) : OpcodeOf.Statement (.mident rd) := opField_fmtR _ _ _ _ _
theorem OpcodeOf.mrotx (rd ra : RegNo) : OpcodeOf.Statement (.mrotx rd ra) := opField_fmtR _ _ _ _ _
theorem OpcodeOf.mroty (rd ra : RegNo) : OpcodeOf.Statement (.mroty rd ra) := opField_fmtR _ _ _ _ _
theorem OpcodeOf.mrotz (rd ra : RegNo) : OpcodeOf.Statement (.mrotz rd ra) := opField_fmtR _ _ _ _ _
theorem OpcodeOf.mmul (rd ra rb : RegNo) : OpcodeOf.Statement (.mmul rd ra rb) := opField_fmtR _ _ _ _ _
theorem OpcodeOf.mtrans (rd ra : RegNo) : OpcodeOf.Statement (.mtrans rd ra) := opField_fmtR _ _ _ _ _
theorem OpcodeOf.mvmul (rd ra rb : RegNo) : OpcodeOf.Statement (.mvmul rd ra rb) := opField_fmtR _ _ _ _ _
theorem OpcodeOf.mfwd (rd ra : RegNo) : OpcodeOf.Statement (.mfwd rd ra) := opField_fmtR _ _ _ _ _
theorem OpcodeOf.rclass (ra : RegNo) : OpcodeOf.Statement (.rclass ra) := opField_fmtR _ _ _ _ _
theorem OpcodeOf.rgnd (rd ra rb : RegNo) : OpcodeOf.Statement (.rgnd rd ra rb) := opField_fmtR _ _ _ _ _
theorem OpcodeOf.rcld (rd ra rb : RegNo) : OpcodeOf.Statement (.rcld rd ra rb) := opField_fmtR _ _ _ _ _
theorem OpcodeOf.texg (rd ra : RegNo) : OpcodeOf.Statement (.texg rd ra) := opField_fmtR _ _ _ _ _
theorem OpcodeOf.texc (rd ra : RegNo) : OpcodeOf.Statement (.texc rd ra) := opField_fmtR _ _ _ _ _
theorem OpcodeOf.dqc (rd ra : RegNo) : OpcodeOf.Statement (.dqc rd ra) := opField_fmtR _ _ _ _ _
theorem OpcodeOf.dqf (rd ra : RegNo) (par : BitVec 1) : OpcodeOf.Statement (.dqf rd ra par) := opField_fmtR _ _ _ _ _
theorem OpcodeOf.fbpix (ra : RegNo) (x y : Byte) : OpcodeOf.Statement (.fbpix ra x y) := opField_fmtP _ _ _ _
theorem OpcodeOf.fbblk (ra : RegNo) (x y : Byte) : OpcodeOf.Statement (.fbblk ra x y) := opField_fmtP _ _ _ _
theorem OpcodeOf.fbst (ra : RegNo) (x page : Byte) : OpcodeOf.Statement (.fbst ra x page) := opField_fmtP _ _ _ _
theorem OpcodeOf.camrot : OpcodeOf.Statement (.camrot) := opField_fmtR _ _ _ _ _
theorem OpcodeOf.camtick (mask : BitVec 4) : OpcodeOf.Statement (.camtick mask) := opField_fmtI _ _ _ _
theorem OpcodeOf.mcam (rd : RegNo) : OpcodeOf.Statement (.mcam rd) := opField_fmtR _ _ _ _ _
theorem OpcodeOf.mcami (rd : RegNo) : OpcodeOf.Statement (.mcami rd) := opField_fmtR _ _ _ _ _
theorem OpcodeOf.vcam (rd : RegNo) : OpcodeOf.Statement (.vcam rd) := opField_fmtR _ _ _ _ _
theorem OpcodeOf.rcorn (ra : RegNo) : OpcodeOf.Statement (.rcorn ra) := opField_fmtR _ _ _ _ _
theorem OpcodeOf.rshade (rd ra : RegNo) : OpcodeOf.Statement (.rshade rd ra) := opField_fmtR _ _ _ _ _
theorem OpcodeOf.rend : OpcodeOf.Statement (.rend) := opField_fmtR _ _ _ _ _

end Sys2Proof.Laws
end

