-- ==== Sys2Proof/Tests/Slice0.lean ====
section
/-! SUPPORT. The implementer's own tests: the smoke test of WellFormed, a word of every command as the spec
writes it (96_family_vectors.md section 2.1), illegal words, and one step of every command on a small state
(expected values: the vectors of 96_family_vectors.md and the examples inside the rules). -/

namespace Sys2Proof.Tests

-- one theorem at a time: many small kernel checks side by side run out of thread stacks
set_option Elab.async false

open Sys2Proof.Machine Sys2Proof.Safety Sys2Proof.Claims

/-! ### WellFormed: the one check, and a term that it refuses -/

theorem test_wellFormed_refuses_lane_three :
    Instr.wellFormed (.vextw 0 1 3) = false ∧ Instr.wellFormed (.vextn 0 1 3) = false ∧
    Instr.wellFormed (.vinsw 0 1 3) = false ∧ Instr.wellFormed (.vinsn 0 1 3) = false := by decide

theorem test_wellFormed_accepts_lane_two : Instr.wellFormed (.vextw 0 1 2) = true := by decide

theorem test_wellFormed_refuses_what_decode_refuses :
    Instr.wellFormed (.vextw 0 0 3) = false ∧ encode (.vextw 0 0 3) = 0x2A003000#32 ∧
    decodeTableWord 32 0x2A003000 = none := by decide

/-! ### Words of 96_family_vectors.md section 2.1, by 30_encoding.md R98 -/

/-- `LIW W1, 8192`; `LIN N2, -64`; `LIB B0, 224`; `ADDW W3, W1, W2`; `ADDN N3, N1, N2`; `SUBW W6, W5, W3`; `SUBN N15, N14, N13`; `NEGW W4, W3`; `NEGN N4, N3`; `MULW W3, W1, W2`; `MULN N6, N4, N4`; `MULWN W8, W7, N3`; `DIVW W3, W1, W2`; `DIVN N3, N1, N2`; `QDIV W3, W1, N2`. -/
theorem test_decode_scalar_wide_and_narrow :
    decodeTableWord 32 0x01102000 = some (.liw 1 8192) ∧
    decodeTableWord 32 0x0220FFC0 = some (.lin 2 (-64)) ∧
    decodeTableWord 32 0x030000E0 = some (.lib 0 224) ∧
    decodeTableWord 32 0x04312000 = some (.addw 3 1 2) ∧
    decodeTableWord 32 0x05312000 = some (.addn 3 1 2) ∧
    decodeTableWord 32 0x06653000 = some (.subw 6 5 3) ∧
    decodeTableWord 32 0x07FED000 = some (.subn 15 14 13) ∧
    decodeTableWord 32 0x08430000 = some (.negw 4 3) ∧
    decodeTableWord 32 0x09430000 = some (.negn 4 3) ∧
    decodeTableWord 32 0x0A312000 = some (.mulw 3 1 2) ∧
    decodeTableWord 32 0x0B644000 = some (.muln 6 4 4) ∧
    decodeTableWord 32 0x0C873000 = some (.mulwn 8 7 3) ∧
    decodeTableWord 32 0x0D312000 = some (.divw 3 1 2) ∧
    decodeTableWord 32 0x0E312000 = some (.divn 3 1 2) ∧
    decodeTableWord 32 0x0F312000 = some (.qdiv 3 1 2) := by decide
/-- `CVTNW W4, N2`; `CVTWN N2, W4`; `CLAMPW W4, W1, W2, W3`; `SIN N4, B0`; `COS N5, B0`; `ADDB B2, B0, B1`; `ADDIB B1, B1, 255`; `NEGB B3, B0`. -/
theorem test_decode_scalar_convert_sine_byte :
    decodeTableWord 32 0x10420000 = some (.cvtnw 4 2) ∧
    decodeTableWord 32 0x11240000 = some (.cvtwn 2 4) ∧
    decodeTableWord 32 0x12412300 = some (.clampw 4 1 2 3) ∧
    decodeTableWord 32 0x13400000 = some (.sin 4 0) ∧
    decodeTableWord 32 0x14500000 = some (.cos 5 0) ∧
    decodeTableWord 32 0x15201000 = some (.addb 2 0 1) ∧
    decodeTableWord 32 0x161100FF = some (.addib 1 1 255) ∧
    decodeTableWord 32 0x17300000 = some (.negb 3 0) := by decide
/-- `VADDW VW2, VW0, VW1`; `VADDN VN2, VN0, VN1`; `VSUBW VW2, VW0, VW1`; `VSUBN VN2, VN0, VN1`; `VSCLN VN1, VN0, N5`; `VSCLWN VW1, VN8, W3`; `VCVTNW VW1, VN0`; `VCROSSW VW2, VW0, VW1`; `VCROSSN VN2, VN0, VN1`; `VLERPN VN8, VN4, VN5, 64, 7`; `VEXTW W0, VW1, 1`; `VEXTN N0, VN8, 1`; `VINSW VW2, W0, 2`; `VINSN VN2, N0, 0`. -/
theorem test_decode_vector :
    decodeTableWord 32 0x20201000 = some (.vaddw 2 0 1) ∧
    decodeTableWord 32 0x21201000 = some (.vaddn 2 0 1) ∧
    decodeTableWord 32 0x22201000 = some (.vsubw 2 0 1) ∧
    decodeTableWord 32 0x23201000 = some (.vsubn 2 0 1) ∧
    decodeTableWord 32 0x24105000 = some (.vscln 1 0 5) ∧
    decodeTableWord 32 0x25183000 = some (.vsclwn 1 8 3) ∧
    decodeTableWord 32 0x26100000 = some (.vcvtnw 1 0) ∧
    decodeTableWord 32 0x27201000 = some (.vcrossw 2 0 1) ∧
    decodeTableWord 32 0x28201000 = some (.vcrossn 2 0 1) ∧
    decodeTableWord 32 0x29845740 = some (.vlerpn 8 4 5 64 7) ∧
    decodeTableWord 32 0x2A011000 = some (.vextw 0 1 1) ∧
    decodeTableWord 32 0x2B081000 = some (.vextn 0 8 1) ∧
    decodeTableWord 32 0x2C202000 = some (.vinsw 2 0 2) ∧
    decodeTableWord 32 0x2D200000 = some (.vinsn 2 0 0) := by decide
/-- `MIDENT M0`; `MROTX M1, B3`; `MROTY M2, B4`; `MROTZ M0, B1`; `MMUL M3, M0, M1`; `MTRANS M4, M3`; `MVMUL VN1, VN0, M3`; `MFWD VN0, M3`. -/
theorem test_decode_matrix :
    decodeTableWord 32 0x30000000 = some (.mident 0) ∧
    decodeTableWord 32 0x31130000 = some (.mrotx 1 3) ∧
    decodeTableWord 32 0x32240000 = some (.mroty 2 4) ∧
    decodeTableWord 32 0x33010000 = some (.mrotz 0 1) ∧
    decodeTableWord 32 0x34301000 = some (.mmul 3 0 1) ∧
    decodeTableWord 32 0x35430000 = some (.mtrans 4 3) ∧
    decodeTableWord 32 0x36103000 = some (.mvmul 1 0 3) ∧
    decodeTableWord 32 0x37030000 = some (.mfwd 0 3) := by decide
/-- `RCLASS N0`; `RGND VW1, VW0, VN8`; `RCLD VW2, VW0, VN9`; `TEXG B1, VW1`; `TEXC B1, VW1`. -/
theorem test_decode_rays_and_textures :
    decodeTableWord 32 0x40000000 = some (.rclass 0) ∧
    decodeTableWord 32 0x41108000 = some (.rgnd 1 0 8) ∧
    decodeTableWord 32 0x42209000 = some (.rcld 2 0 9) ∧
    decodeTableWord 32 0x50110000 = some (.texg 1 1) ∧
    decodeTableWord 32 0x51110000 = some (.texc 1 1) := by decide
/-- `DQC B2, B1`; `DQF B5, B1, 1`; `FBPIX B2, 10, 35`; `FBBLK B2, 10, 34`; `FBST B3, 127, 7`. -/
theorem test_decode_dither_and_framebuffer :
    decodeTableWord 32 0x60210000 = some (.dqc 2 1) ∧
    decodeTableWord 32 0x61511000 = some (.dqf 5 1 1) ∧
    decodeTableWord 32 0x6202230A = some (.fbpix 2 10 35) ∧
    decodeTableWord 32 0x6302220A = some (.fbblk 2 10 34) ∧
    decodeTableWord 32 0x6403077F = some (.fbst 3 127 7) := by decide
/-- `CAMROT`; `CAMTICK 0x6`; `MCAM M0`; `MCAMI M6`; `VCAM VW0`. -/
theorem test_decode_camera :
    decodeTableWord 32 0x70000000 = some (.camrot) ∧
    decodeTableWord 32 0x71000006 = some (.camtick 0x6) ∧
    decodeTableWord 32 0x72000000 = some (.mcam 0) ∧
    decodeTableWord 32 0x73600000 = some (.mcami 6) ∧
    decodeTableWord 32 0x74000000 = some (.vcam 0) := by decide
/-- `RCORN M0`; `RSHADE B1, VN8`; `REND`. -/
theorem test_decode_render :
    decodeTableWord 32 0x80000000 = some (.rcorn 0) ∧
    decodeTableWord 32 0x81180000 = some (.rshade 1 8) ∧
    decodeTableWord 32 0x82000000 = some (.rend) := by decide

/-! ### One word of each family, bit by bit from the format tables R91 to R94 -/

/-- Format R, scalar: op 00001010, rd 0011, ra 0001, rb 0010, rc 0000, zero. -/
theorem test_bits_mulw : decodeTableWord 32 0b00001010001100010010000000000000 = some (.mulw 3 1 2) := by decide

/-- Format I, scalar: op 00000001, rd 0000, ra 0000, imm16 of -2. -/
theorem test_bits_liw : decodeTableWord 32 0b00000001000000001111111111111110 = some (.liw 0 (-2)) := by decide

/-- Format L, vector: op 00101001, rd 1000, ra 0100, rb 0101, sh 0111, k 01000000. -/
theorem test_bits_vlerpn :
    decodeTableWord 32 0b00101001100001000101011101000000 = some (.vlerpn 8 4 5 64 7) := by decide

/-- Format R with a lane, vector: op 00101010, rd 0000, ra 0001, lane 0001. -/
theorem test_bits_vextw : decodeTableWord 32 0b00101010000000010001000000000000 = some (.vextw 0 1 1) := by decide

/-- Format R, matrix: op 00110110, rd 0001, ra 0000, rb 0011. -/
theorem test_bits_mvmul : decodeTableWord 32 0b00110110000100000011000000000000 = some (.mvmul 1 0 3) := by decide

/-- Format R, ray/plane: op 01000001, rd 0001, ra 0000, rb 1000. -/
theorem test_bits_rgnd : decodeTableWord 32 0b01000001000100001000000000000000 = some (.rgnd 1 0 8) := by decide

/-- Format R, texture: op 01010000, rd 0001, ra 0001. -/
theorem test_bits_texg : decodeTableWord 32 0b01010000000100010000000000000000 = some (.texg 1 1) := by decide

/-- Format P, framebuffer: op 01100011, zero 0000, ra 0010, y 00100000, x 00001010. -/
theorem test_bits_fbblk :
    decodeTableWord 32 0b01100011000000100010000000001010 = some (.fbblk 2 10 32) := by decide

/-- Format R with a parity, dither: op 01100001, rd 0101, ra 0001, parity 0001. -/
theorem test_bits_dqf : decodeTableWord 32 0b01100001010100010001000000000000 = some (.dqf 5 1 1) := by decide

/-- Format I, camera: op 01110001, rd 0000, ra 0000, imm16 6. -/
theorem test_bits_camtick : decodeTableWord 32 0b01110001000000000000000000000110 = some (.camtick 6) := by decide

/-- Format R, render: op 10000001, rd 0001, ra 1000. -/
theorem test_bits_rshade : decodeTableWord 32 0b10000001000110000000000000000000 = some (.rshade 1 8) := by decide

/-! ### Illegal words (R104), refused by name -/

/-- The name a word is refused by. -/
def refusal (w : Word) : Option DecodeError :=
  match decode w with
  | .ok _ => none
  | .error e => some e

theorem test_illegal_opcodes :
    refusal 0x00000000#32 = some (.unassignedOpcode 0x00#8) ∧
    refusal 0xFFFFFFFF#32 = some (.unassignedOpcode 0xFF#8) ∧
    refusal 0x18000000#32 = some (.unassignedOpcode 0x18#8) ∧
    refusal 0x83000000#32 = some (.unassignedOpcode 0x83#8) := by decide

theorem test_illegal_bits :
    refusal 0x82000001#32 = some (.reservedBitSet 1#32) ∧
    refusal 0x71000010#32 = some (.reservedBitSet 0x10#32) ∧
    refusal 0x61002000#32 = some (.reservedBitSet 0x2000#32) ∧
    refusal 0x2B004000#32 = some (.reservedBitSet 0x4000#32) := by decide

theorem test_illegal_lane :
    refusal 0x2A003000#32 = some .laneThree ∧ refusal 0x2D003000#32 = some .laneThree := by decide

/-! ### One step of each command -/

/-- The state after a command. -/
def after (i : Instr) (s : State) : State :=
  match exec i s with
  | .next t => t
  | _ => s

/-- The state after a step. -/
def stepped (s : State) : State :=
  match step s with
  | .next t => t
  | _ => s

/-- Reset with two wide registers W1, W2 written. -/
def withW (a b : Int) : State := (State.reset.writeW 1 a).writeW 2 b

/-- Reset with two narrow registers N1, N2 written. -/
def withN (a b : Int) : State := (State.reset.writeN 1 a).writeN 2 b

/-- Reset with W1 and N2 written. -/
def withWN (a b : Int) : State := (State.reset.writeW 1 a).writeN 2 b

/-- Reset with two byte registers B1, B2 written. -/
def withB (a b : Byte) : State := (State.reset.writeB 1 a).writeB 2 b

/-- Reset with two wide vectors VW1, VW2 written. -/
def withVW (a b : V3) : State := (State.reset.writeVW 1 a).writeVW 2 b

/-- Reset with two narrow vectors VN1, VN2 written. -/
def withVN (a b : V3) : State := (State.reset.writeVN 1 a).writeVN 2 b

/-- EZ(32) . EX(16), the matrix of the examples of R184. -/
def banked : Mat := ⟨⟨181, 167, 69⟩, ⟨-181, 167, 69⟩, ⟨0, -98, 237⟩⟩

/-- Reset with VN1 and M2 written. -/
def withVM (v : V3) (m : Mat) : State := (State.reset.writeVN 1 v).writeM 2 m

/-- Reset with the position VW1 and the direction VN2 written. -/
def withRay (p d : V3) : State := (State.reset.writeVW 1 p).writeVN 2 d

/-- Reset with the three angles written. -/
def withAngles (p r y : Byte) : State := State.reset.writeAngles p r y

/-- R120; 65534 is -2. -/
theorem test_liw_sign_extends :
    (after (.liw 0 0xFFFE) State.reset).readW 0 = -2 := by decide +kernel
theorem test_lin_sign_extends :
    (after (.lin 2 0x8000) State.reset).readN 2 = -32768 := by decide +kernel
theorem test_lib_loads :
    (after (.lib 0 224) State.reset).readB 0 = 224 := by decide +kernel
theorem test_addw_wraps :
    (after (.addw 3 1 2) (withW 2147483647 1)).readW 3 = -2147483648 := by decide +kernel
theorem test_addn_wraps :
    (after (.addn 3 1 2) (withN 32767 1)).readN 3 = -32768 := by decide +kernel
theorem test_subw_subtracts :
    (after (.subw 3 1 2) (withW 40960 8192)).readW 3 = 32768 := by decide +kernel
theorem test_subn_wraps :
    (after (.subn 3 1 2) (withN (-32768) 1)).readN 3 = 32767 := by decide +kernel
theorem test_negw_minimum :
    (after (.negw 3 1) (withW (-2147483648) 0)).readW 3 = -2147483648 := by decide +kernel
theorem test_negn_negates :
    (after (.negn 3 1) (withN (-64) 0)).readN 3 = 64 := by decide +kernel
theorem test_mulw_floors :
    (after (.mulw 3 1 2) (withW (-1) 1)).readW 3 = -1 := by decide +kernel
theorem test_mulw_wraps :
    (after (.mulw 3 1 2) (withW 2147483647 2147483647)).readW 3 = -16777216 := by decide +kernel
theorem test_muln_wraps :
    (after (.muln 3 1 2) (withN (-32768) 32767)).readN 3 = 128 := by decide +kernel
theorem test_mulwn_mixes :
    (after (.mulwn 3 1 2) (withWN 232992 (-256))).readW 3 = -232992 := by decide +kernel
theorem test_divw_truncates :
    (after (.divw 3 1 2) (withW (-7) 3)).readW 3 = -597 := by decide +kernel
/-- U2: the destination is a free value, so only the rest is tested. -/
theorem test_divw_by_zero_leaves_status :
    (after (.divw 3 1 2) (withW 5 0)).status = 0#8 ∧ (after (.divw 3 1 2) (withW 5 0)).readW 1 = 5 := by decide +kernel
theorem test_divn_wraps :
    (after (.divn 3 1 2) (withN 128 1)).readN 3 = -32768 := by decide +kernel
theorem test_qdiv_negative :
    (after (.qdiv 3 1 2) (withWN (-100) (-7))).readW 3 = 3658 := by decide +kernel
theorem test_qdiv_zero_denominator :
    (after (.qdiv 3 1 2) (withWN 8192 0)).readW 3 = 2097152 := by decide +kernel
theorem test_cvtnw_keeps :
    (after (.cvtnw 3 2) (withN 0 (-98))).readW 3 = -98 := by decide +kernel
theorem test_cvtwn_wraps :
    (after (.cvtwn 3 1) (withW 70000 0)).readN 3 = 4464 := by decide +kernel
/-- R137: the minimum is applied last. -/
theorem test_clampw_high_last :
    (after (.clampw 4 1 2 3) ((withW 50 20).writeW 3 10)).readW 4 = 10 := by decide +kernel
theorem test_sin_entry :
    (after (.sin 3 1) (withB 246 0)).readN 3 = -62 := by decide +kernel
theorem test_cos_phase :
    (after (.cos 3 1) (withB 193 0)).readN 3 = 6 := by decide +kernel
theorem test_addb_wraps :
    (after (.addb 3 1 2) (withB 200 100)).readB 3 = 44 := by decide +kernel
theorem test_addib_wraps :
    (after (.addib 1 1 255) (withB 0 0)).readB 1 = 255 := by decide +kernel
theorem test_negb_negates :
    (after (.negb 3 1) (withB 10 0)).readB 3 = 246 := by decide +kernel
theorem test_vaddw_wraps :
    (after (.vaddw 3 1 2) (withVW ⟨2147483647, -2147483648, -1⟩ ⟨1, -1, 1⟩)).readVW 3 = ⟨-2147483648, 2147483647, 0⟩ := by decide +kernel
theorem test_vaddn_wraps :
    (after (.vaddn 3 1 2) (withVN ⟨32767, 0, 0⟩ ⟨1, 0, 0⟩)).readVN 3 = ⟨-32768, 0, 0⟩ := by decide +kernel
theorem test_vsubw_subtracts :
    (after (.vsubw 3 1 2) (withVW ⟨10, 20, 30⟩ ⟨1, 2, 3⟩)).readVW 3 = ⟨9, 18, 27⟩ := by decide +kernel
theorem test_vsubn_subtracts :
    (after (.vsubn 3 1 2) (withVN ⟨256, 128, 256⟩ ⟨-256, 128, 256⟩)).readVN 3 = ⟨512, 0, 0⟩ := by decide +kernel
theorem test_vscln_floors :
    (after (.vscln 3 1 2) ((withVN ⟨256, -255, 3⟩ ⟨0, 0, 0⟩).writeN 2 128)).readVN 3 = ⟨128, -128, 1⟩ := by decide +kernel
theorem test_vsclwn_scales :
    (after (.vsclwn 3 1 2) ((withVN ⟨100, -64, 253⟩ ⟨0, 0, 0⟩).writeW 2 32768)).readVW 3 = ⟨12800, -8192, 32384⟩ := by decide +kernel
theorem test_vcvtnw_keeps :
    (after (.vcvtnw 3 1) (withVN ⟨-32768, 32767, 0⟩ ⟨0, 0, 0⟩)).readVW 3 = ⟨-32768, 32767, 0⟩ := by decide +kernel
theorem test_vcrossw_example :
    (after (.vcrossw 3 1 2) (withVW ⟨100000, -200000, 300000⟩ ⟨-512, 768, 1024⟩)).readVW 3 = ⟨-1700000, -1000000, -100000⟩ := by decide +kernel
/-- R175, with the destination also a source (R96). -/
theorem test_vcrossn_in_place :
    (after (.vcrossn 1 1 2) (withVN ⟨100, -200, 300⟩ ⟨-50, 60, 70⟩)).readVN 1 = ⟨-125, -86, -16⟩ := by decide +kernel
theorem test_vlerpn_floors :
    (after (.vlerpn 3 1 2 1 1) (withVN ⟨0, 0, 0⟩ ⟨-3, 3, 1⟩)).readVN 3 = ⟨-2, 1, 0⟩ := by decide +kernel
theorem test_vlerpn_full_range :
    (after (.vlerpn 3 1 2 128 8) (withVN ⟨32767, 0, 0⟩ ⟨-32768, 0, 0⟩)).readVN 3 = ⟨-1, 0, 0⟩ := by decide +kernel
theorem test_vextw_lane_two :
    (after (.vextw 0 1 2) (withVW ⟨5, 8192, -7⟩ ⟨0, 0, 0⟩)).readW 0 = -7 := by decide +kernel
theorem test_vextw_lane_three_is_illegal :
    (after (.vextw 1 1 3) (withVW ⟨5, 8192, -7⟩ ⟨0, 0, 0⟩)).ill = true := by decide +kernel
theorem test_vextn_lane_one :
    (after (.vextn 0 1 1) (withVN ⟨0, -8, 256⟩ ⟨0, 0, 0⟩)).readN 0 = -8 := by decide +kernel
theorem test_vinsw_keeps_others :
    (after (.vinsw 2 0 1) ((withVW ⟨0, 0, 0⟩ ⟨1, 2, 3⟩).writeW 0 9)).readVW 2 = ⟨1, 9, 3⟩ := by decide +kernel
theorem test_vinsn_keeps_others :
    (after (.vinsn 2 0 0) ((withVN ⟨0, 0, 0⟩ ⟨1, 2, 3⟩).writeN 0 (-4))).readVN 2 = ⟨-4, 2, 3⟩ := by decide +kernel
theorem test_mident_identity :
    (after (.mident 3) State.reset).readM 3 = ⟨⟨256, 0, 0⟩, ⟨0, 256, 0⟩, ⟨0, 0, 256⟩⟩ := by decide +kernel
theorem test_mrotx_signs :
    (after (.mrotx 3 1) (withB 32 0)).readM 3 = ⟨⟨256, 0, 0⟩, ⟨0, 181, 181⟩, ⟨0, -181, 181⟩⟩ := by decide +kernel
theorem test_mroty_signs :
    (after (.mroty 3 1) (withB 32 0)).readM 3 = ⟨⟨181, 0, -181⟩, ⟨0, 256, 0⟩, ⟨181, 0, 181⟩⟩ := by decide +kernel
theorem test_mrotz_signs :
    (after (.mrotz 3 1) (withB 32 0)).readM 3 = ⟨⟨181, 181, 0⟩, ⟨-181, 181, 0⟩, ⟨0, 0, 256⟩⟩ := by decide +kernel
/-- R184: EX(16) times EZ(32). -/
theorem test_mmul_order :
    (after (.mmul 3 1 2) ((State.reset.writeM 1 ⟨⟨256, 0, 0⟩, ⟨0, 237, 98⟩, ⟨0, -98, 237⟩⟩).writeM 2 ⟨⟨181, 181, 0⟩, ⟨-181, 181, 0⟩, ⟨0, 0, 256⟩⟩)).readM 3 = ⟨⟨181, 181, 0⟩, ⟨-168, 167, 98⟩, ⟨69, -70, 237⟩⟩ := by decide +kernel
theorem test_mtrans_in_place :
    (after (.mtrans 2 2) (withVM ⟨0, 0, 0⟩ banked)).readM 2 = ⟨⟨181, -181, 0⟩, ⟨167, 167, -98⟩, ⟨69, 69, 237⟩⟩ := by decide +kernel
theorem test_mvmul_example :
    (after (.mvmul 3 1 2) (withVM ⟨256, 128, 256⟩ banked)).readVN 3 = ⟨90, 152, 340⟩ := by decide +kernel
theorem test_mfwd_row_two :
    (after (.mfwd 3 2) (withVM ⟨0, 0, 0⟩ banked)).readVN 3 = ⟨0, -98, 237⟩ := by decide +kernel
/-- R203, the edge of 90_conflicts.md C1. -/
theorem test_rclass_edges :
    (after (.rclass 1) (withN (-9) 0)).cls = 1#2 ∧ (after (.rclass 1) (withN (-8) 0)).cls = 2#2 := by decide +kernel
theorem test_rclass_sky_and_cloud :
    (after (.rclass 1) (withN 8 0)).cls = 0#2 ∧ (after (.rclass 1) (withN 9 0)).cls = 3#2 := by decide +kernel
theorem test_rgnd_example :
    (after (.rgnd 3 1 2) (withRay ⟨0, 8192, 0⟩ ⟨100, -64, 253⟩)).readVW 3 = ⟨12800, 0, 32384⟩ := by decide +kernel
/-- R204: the narrow negation wraps. -/
theorem test_rgnd_minimum_direction :
    (after (.rgnd 3 1 2) (withRay ⟨0, 8192, 0⟩ ⟨0, -32768, 0⟩)).dist = -2048 := by decide +kernel
theorem test_rcld_above_the_plane :
    (after (.rcld 3 1 2) (withRay ⟨0, 50000, 0⟩ ⟨10, 100, 10⟩)).readVW 3 = ⟨-904, 40960, -904⟩ := by decide +kernel
theorem test_rcld_distance :
    (after (.rcld 3 1 2) (withRay ⟨0, 8192, 0⟩ ⟨100, 64, 253⟩)).dist = 131072 := by decide +kernel
theorem test_texg_wraps :
    (after (.texg 3 1) (withVW ⟨-232992, 0, 232992⟩ ⟨0, 0, 0⟩)).readB 3 = 4 := by decide +kernel
theorem test_texc_wraps :
    (after (.texc 3 1) (withVW ⟨131072, 40960, -1⟩ ⟨0, 0, 0⟩)).readB 3 = 1 := by decide +kernel
theorem test_dqc_level_three :
    (after (.dqc 3 1) (withB 3 0)).readB 3 = 11 := by decide +kernel
theorem test_dqf_parities :
    (after (.dqf 3 1 0) (withB 2 0)).readB 3 = 1 ∧ (after (.dqf 3 1 1) (withB 2 0)).readB 3 = 0 := by decide +kernel
/-- R224: bit 0 only, coordinates masked. -/
theorem test_fbpix_clears_one_bit :
    (after (.fbpix 2 138 99) ((withB 0 254).writeFB 522 0xFF)).readFB 522 = 0xF7 := by decide +kernel
theorem test_fbblk_wraps_columns :
    (after (.fbblk 2 127 63) (withB 0 15)).readFB 896 = 0x80 ∧ (after (.fbblk 2 127 63) (withB 0 15)).readFB 127 = 1 := by decide +kernel
theorem test_fbblk_rows :
    (after (.fbblk 2 10 34) (withB 0 11)).readFB 522 = 0x04 ∧ (after (.fbblk 2 10 34) (withB 0 11)).readFB 523 = 0x0C := by decide +kernel
theorem test_fbst_masks :
    (after (.fbst 2 130 9) (withB 0 60)).readFB 130 = 60 := by decide +kernel
theorem test_camrot_example :
    (after .camrot (withAngles 10 20 30)).camRot = ⟨⟨187, 117, 128⟩, ⟨-54, 218, -123⟩, ⟨-167, 62, 184⟩⟩ := by decide +kernel
theorem test_camrot_transpose :
    (after .camrot (withAngles 10 20 30)).camInv = ⟨⟨187, -54, -167⟩, ⟨117, 218, 62⟩, ⟨128, -123, 184⟩⟩ := by decide +kernel
theorem test_camtick_position :
    (after (.camtick 4) (withAngles 10 20 30)).camPos = ⟨-176, 8254, 175⟩ := by decide +kernel
theorem test_camtick_turn_at_wrap :
    (after (.camtick 4) (withAngles 0 127 0)).yaw = 253 := by decide +kernel
theorem test_mcam_copies :
    (after (.mcam 3) State.reset).readM 3 = ⟨⟨256, 0, 0⟩, ⟨0, 256, 0⟩, ⟨0, 0, 256⟩⟩ := by decide +kernel
theorem test_mcami_copies :
    (after (.mcami 3) (after (.camtick 2) State.reset)).readM 3 = ⟨⟨256, 0, 0⟩, ⟨0, 256, 6⟩, ⟨0, -6, 256⟩⟩ := by decide +kernel
theorem test_vcam_copies :
    (after (.vcam 3) State.reset).readVW 3 = ⟨0, 8192, 0⟩ := by decide +kernel
theorem test_rcorn_top_right :
    (after (.rcorn 2) (withVM ⟨0, 0, 0⟩ banked)).readVN 5 = ⟨90, 152, 340⟩ := by decide +kernel
theorem test_rcorn_bottom_left :
    (after (.rcorn 2) (withVM ⟨0, 0, 0⟩ banked)).readVN 6 = ⟨-91, -349, 133⟩ := by decide +kernel
theorem test_rshade_ground :
    (after (.rshade 3 1) (withVN ⟨100, -64, 253⟩ ⟨0, 0, 0⟩)).readB 3 = 2 ∧ (after (.rshade 3 1) (withVN ⟨100, -64, 253⟩ ⟨0, 0, 0⟩)).dist = 32768 := by decide +kernel
theorem test_rshade_dead_keeps_dist :
    (after (.rshade 3 1) ((withVN ⟨0, -8, 256⟩ ⟨0, 0, 0⟩).setDist 7)).dist = 7 := by decide +kernel

/-- R268: the level of the first frame's sample at column 0, row 30 is the sky level. REND as a whole is
checked pixel by pixel by an obligation; a frame is too long for a kernel test. -/
theorem test_rend_first_sky_sample :
    (shade Cfg.ref State.reset.camPos (viewDir Cfg.ref (corners Cfg.ref State.reset.camRot) 0 30)).cls
      = .sky := by decide +kernel

theorem test_rend_keeps_dist : (after .rend (State.reset.setDist 7)).dist = 7 := by decide +kernel

/-! ### The host port (96_family_vectors.md section 2.9) -/

theorem test_issue_illegal_sets_ill :
    (stepped { State.reset with host := [.issue 0x82000001#32] }).status = 1#8 := by decide +kernel
theorem test_issue_runs_the_command :
    (stepped (State.reset.withFetchWord 32 0x0100FFFE)).readW 0 = -2 := by decide +kernel
theorem test_idle_holds :
    (stepped State.reset).pitch = State.reset.pitch := by decide +kernel
theorem test_host_write_truncates :
    (State.reset.hostWriteReg 6 3 0 0x1FF).pitch = 255 ∧ (State.reset.hostWriteReg 6 6 0 0xFF).rctrl = 1 := by decide +kernel
theorem test_host_write_pattern :
    (State.reset.hostWriteReg 1 2 0 0x18000).readN 2 = -32768 := by decide +kernel
theorem test_host_write_ignored :
    (State.reset.hostWriteReg 6 1 4 0).camRot.get 1 1 = 256 ∧ (State.reset.hostWriteReg 6 8 0 3).cls = 0#2 := by decide +kernel
theorem test_host_reads_tables :
    State.reset.hostReadMem .sintab 32 = 181 ∧ State.reset.hostReadMem .recip 8 = 7281 ∧
    State.reset.hostReadMem .gtex 451 = 2 ∧ State.reset.hostReadMem .gtex 4096 = 0 := by decide +kernel
theorem test_host_reads_camera :
    State.reset.hostReadReg 6 0 1 = 8192 ∧ State.reset.hostReadReg 6 1 8 = 256 ∧
    State.reset.hostReadReg 6 10 0 = 0 := by decide +kernel
theorem test_host_reset_clears_ill :
    State.reset.takeIllegal.hostReset.status = 0#8 := by decide +kernel

/-! ### Witnesses: for every obligation with hypotheses, data that meet all of them together, a case for each
clause at the edge of its range -/

/-- A state that is not the reset state, with every lane in range. -/
def busy (full : Bool) : State :=
  { ((State.reset.writeW 1 (-2147483648)).writeVN 2 ⟨32767, -32768, 9⟩) with rctrl := if full then 1#8 else 0#8 }

theorem test_busy_lanesInRange (full : Bool) : LanesInRange (busy full) := by
  cases full <;> constructor <;> decide +kernel

/-- Witness of StepKeepsInvariant and RenderLoopEqualsRend, both strategies. -/
theorem test_witness_invariant (full : Bool) :
    Inv (busy full) ∧ (busy full).rctrl.getLsbD 0 = full ∧ step (busy full) = .next (busy full) := by
  refine ⟨⟨test_busy_lanesInRange full, ?_, ?_, ?_⟩, ?_, rfl⟩
  · cases full <;> (unfold InverseIsTranspose; decide +kernel)
  · cases full <;> (unfold ReservedBitsZero; decide +kernel)
  · cases full <;> exact ⟨by decide +kernel, fun c hc => (List.not_mem_nil (a := c) hc).elim⟩
  · cases full <;> decide +kernel

/-- Witness of DecodeOfEncode and of the second hypothesis of WritersOfSpecialRegisters. -/
theorem test_witness_wellFormed :
    Instr.wellFormed (.vinsn 15 15 2) = true ∧ Instr.wellFormed (.camtick 15) = true ∧
    Instr.wellFormed (.rgnd 1 2 3) = true ∧ Instr.wellFormed .rend = true := by decide

/-- Witness of EncodeOfDecode, LegalWordsFollowTheTable (third clause) and StepPerformsTheNextAction. -/
theorem test_witness_decodes : decode 0x2A012000#32 = .ok (.vextw 0 1 2) := by decide

/-- Witness of LegalWordsFollowTheTable, second clause. -/
theorem test_witness_selected :
    ∃ r ∈ opcodeTable, r.Selects 0x2A012000#32 := by
  unfold OpcodeRow.Selects; decide +kernel

/-- Witness of IllegalWordOnlySetsIll: one word for each reason of R104. -/
theorem test_witness_illegal :
    (∀ r ∈ opcodeTable, ¬ r.Selects 0x18000000#32) ∧ (∀ r ∈ opcodeTable, ¬ r.Selects 0x82000001#32) ∧
    (∀ r ∈ opcodeTable, ¬ r.Selects 0x2A003000#32) := by
  unfold OpcodeRow.Selects; decide +kernel

/-- A state whose next actions are these. -/
def hosting (as : List HostAction) : State := { State.reset with host := as }

/-- Witness of the hypotheses on the next action: IllegalWordOnlySetsIll, StepPerformsTheNextAction,
ResetValues, HostRegisterPort, HostMemoryPort, StatusIllIsSticky. -/
theorem test_witness_nextAction :
    (hosting [.issue 0x82000001#32, .reset]).host = .issue 0x82000001#32 :: [.reset] ∧
    decode 0x82000001#32 = .error (.reservedBitSet 1#32) ∧ (hosting []).host = [] ∧
    (hosting [.reset]).host = .reset :: [] ∧ (hosting [.readReg 6 9 0]).host = .readReg 6 9 0 :: [] ∧
    (hosting [.writeReg 5 15 8 65536]).host = .writeReg 5 15 8 65536 :: [] ∧
    (hosting [.writeMem .fb 1023 7]).host = .writeMem .fb 1023 7 :: [] := by decide +kernel

/-- Witness of the second clause of IllegalWordOnlySetsIll. -/
theorem test_witness_ill :
    (State.reset.takeIllegal).ill = true ∧ step State.reset.takeIllegal = .next State.reset.takeIllegal :=
  ⟨by decide +kernel, rfl⟩

/-- Witness of StatusIllIsSticky: its three kinds of step, and the reserved bits. -/
theorem test_witness_status :
    (∃ t, step (hosting [.reset]) = .next t) ∧ (∃ t, step (hosting [.issue 0#32]) = .next t) ∧
    decode 0#32 = .error (.unassignedOpcode 0#8) ∧ (∃ t, step (hosting [.writeReg 6 7 0 1]) = .next t) ∧
    State.reset.status &&& 0xFE#8 = 0#8 := ⟨⟨_, rfl⟩, ⟨_, rfl⟩, by decide, ⟨_, rfl⟩, by decide +kernel⟩

/-- Witness of HostRegisterPort: an existing lane of each kind, and lanes just past the end. -/
theorem test_witness_portLanes :
    (portLane State.reset 6 0 2).isSome ∧ (portLane State.reset 6 0 3) = none ∧
    (portLane State.reset 5 15 8).isSome ∧ (portLane State.reset 5 16 0) = none ∧
    (portLane State.reset 6 9 0).isSome ∧ (portLane State.reset 6 10 0) = none ∧
    (portLane State.reset 7 0 0) = none ∧ hostWritable 6 6 = true ∧ hostWritable 6 7 = false := by decide +kernel

/-- Witness of HostMemoryPort: the last index of FB and the first outside it. -/
theorem test_witness_memoryPort :
    1023 < State.reset.cfg.fbSize ∧ ¬ 1024 < State.reset.cfg.fbSize ∧ 255 < State.reset.cfg.sintab.length ∧
    1023 < State.reset.cfg.recip.length ∧ ¬ 1024 < State.reset.cfg.recip.length := by decide +kernel

/-- Witness of RotationFollowsTheAngles. -/
theorem test_witness_rotation :
    (∃ t, exec .camrot State.reset = .next t) ∧ (∃ t, exec (.camtick 15) State.reset = .next t) ∧
    RotationFollowsAngles (hosting [.writeReg 6 0 1 5]) ∧ movesAngles (.writeReg 6 0 1 5) = false ∧
    (∃ t, step (hosting [.writeReg 6 0 1 5]) = .next t) ∧
    Cfg.ref.sintab.getD 0 0 = 0 ∧ Cfg.ref.sintab.getD 64 0 = Cfg.ref.oneN := by
  refine ⟨⟨_, rfl⟩, ⟨_, rfl⟩, ?_, rfl, ⟨_, rfl⟩, by decide +kernel, by decide +kernel⟩
  unfold RotationFollowsAngles; decide +kernel

/-- Witness of WritersOfSpecialRegisters: each special register changes somewhere. -/
theorem test_witness_writers :
    (after (.camtick 2) State.reset).camPos ≠ State.reset.camPos ∧
    (after (.camtick 2) State.reset).camRot ≠ State.reset.camRot ∧
    (after (.camtick 2) State.reset).pitch ≠ State.reset.pitch ∧
    (after (.rclass 1) (withN (-9) 0)).cls ≠ (withN (-9) 0).cls ∧
    (after (.rgnd 3 1 2) (withRay ⟨0, 8192, 0⟩ ⟨0, -64, 0⟩)).dist ≠ 0 ∧
    (after (.fbst 2 0 0) (withB 0 60)).readFB 0 ≠ (withB 0 60).readFB 0 := by decide +kernel

/-- Witness of WrapIsTheUniqueNumberInRange: the ends of the range, both readings of a pattern. -/
theorem test_witness_wrap :
    1 ≤ 8 ∧ Fits 8 (-128) ∧ Fits 8 127 ∧ 127 < 2 ^ 8 ∧ Nat.testBit 127 7 = false ∧ 128 < 2 ^ 8 ∧
    Nat.testBit 128 7 = true := by decide

/-- Witness of Divides, both clauses of each command. -/
theorem test_witness_divides :
    (withW 5 3).readW 2 ≠ 0 ∧ (withW 5 0).readW 2 = 0 ∧ (withN 5 (-1)).readN 2 ≠ 0 ∧ (withN 5 0).readN 2 = 0 := by
  decide +kernel

/-- Witness of QuickDivide, the zero denominator. -/
theorem test_witness_quickDivide : (withWN 8192 0).readN 2 = 0 := by decide +kernel

/-- Witness of ArithmeticLaws: the ends of the ranges, a quotient that fits and is not zero. -/
theorem test_witness_arithmetic :
    Fits Cfg.ref.ww (-2147483648) ∧ Fits Cfg.ref.ww 2147483647 ∧ Fits Cfg.ref.nw (-32768) ∧
    Fits Cfg.ref.nw 32767 ∧ (-3 : Int) ≠ 0 ∧ Fits Cfg.ref.ww (Int.tdiv (7 * 2 ^ Cfg.ref.wf) (-3)) ∧
    divW Cfg.ref 7 (-3) ≠ 0 := by decide +kernel

/-- Witness of QuickDivideErrorBound: the ends of the table and of the numerators, and magnitudes past the
table. -/
theorem test_witness_errorBound :
    Fits 32 ((8388607 : Int) * (65536 / 1) / 256) ∧ Fits 32 ((-8388608 : Int) * (65536 / 1) / 256) ∧
    Fits 32 ((0 : Int) * (65536 / 1024) / 256) ∧ (65536 : Int) % 1024 = 0 ∧ (65536 : Int) % 1023 ≠ 0 ∧
    Fits 32 ((-1 : Int) * (65536 / 1023) / 256) ∧ (1024 : Int) < 1025 ∧ qdiv Cfg.ref 8192 9 ≠ -(2 ^ 31) := by
  decide +kernel

/-- Witness of CrossProductLaws, second clause. -/
theorem test_witness_cross :
    (∃ t, exec (.vcrossw 3 1 2) State.reset = .next t) ∧ (∃ u, exec (.vcrossw 3 2 1) State.reset = .next u) ∧
    (∃ t, exec (.vcrossn 1 1 2) State.reset = .next t) ∧ (∃ u, exec (.vcrossn 1 2 1) State.reset = .next u) :=
  ⟨⟨_, rfl⟩, ⟨_, rfl⟩, ⟨_, rfl⟩, ⟨_, rfl⟩⟩

/-- Witness of InterpolationLaws: lanes at the ends of the range, k at both ends of the open interval. -/
theorem test_witness_interpolation :
    (∀ l, Fits Cfg.ref.nw (V3.get ⟨32767, 0, -32768⟩ l)) ∧ (∀ l, Fits Cfg.ref.nw (V3.get ⟨-32768, 1, 32767⟩ l)) ∧
    0 < 1 ∧ 1 < 2 ^ 7 ∧ 127 < 2 ^ 7 := by decide +kernel

/-- Witness of LaneExtractInsert: the three lanes. -/
theorem test_witness_lanes :
    (0#2 = BitVec.ofNat 2 (0 : Lane)) ∧ (1#2 = BitVec.ofNat 2 (1 : Lane)) ∧ (2#2 = BitVec.ofNat 2 (2 : Lane)) := by
  decide

/-- Witness of ForwardVector. -/
theorem test_witness_forward :
    (withVN ⟨0, 0, 256⟩ ⟨0, 0, 0⟩).readVN 1 = ⟨0, 0, (withVN ⟨0, 0, 256⟩ ⟨0, 0, 0⟩).cfg.oneN⟩ := by decide +kernel

/-- Witness of ClassifyRay: both ends of each of the four ranges. -/
theorem test_witness_classes :
    (withN (-9) 0).readN 1 < -((withN (-9) 0).cfg.tBand : Int) ∧
    -((withN (-8) 0).cfg.tBand : Int) ≤ (withN (-8) 0).readN 1 ∧ (withN (-1) 0).readN 1 < 0 ∧
    0 ≤ (withN 0 0).readN 1 ∧ (withN 8 0).readN 1 ≤ ((withN 8 0).cfg.tBand : Int) ∧
    ((withN 9 0).cfg.tBand : Int) < (withN 9 0).readN 1 := by decide +kernel

/-- Witness of ShadeOneSample: both ends of each of the four ranges. -/
theorem test_witness_shade :
    ((withVN ⟨0, -9, 256⟩ ⟨0, 0, 0⟩).readVN 1).y < -(Cfg.ref.tBand : Int) ∧
    -(Cfg.ref.tBand : Int) ≤ ((withVN ⟨0, -8, 256⟩ ⟨0, 0, 0⟩).readVN 1).y ∧
    ((withVN ⟨0, -1, 256⟩ ⟨0, 0, 0⟩).readVN 1).y < 0 ∧ 0 ≤ ((withVN ⟨0, 0, 256⟩ ⟨0, 0, 0⟩).readVN 1).y ∧
    ((withVN ⟨0, 8, 256⟩ ⟨0, 0, 0⟩).readVN 1).y ≤ (Cfg.ref.tBand : Int) ∧
    (Cfg.ref.tBand : Int) < ((withVN ⟨0, 9, 256⟩ ⟨0, 0, 0⟩).readVN 1).y := by decide +kernel

/-- Witness of TexturePeriodicity, third clause, and of FrameIsPeriodic. -/
theorem test_witness_period : State.reset.cfg.texSh + 6 ≤ State.reset.cfg.ww := by decide +kernel

/-- Witness of PixelWrite: the first and the last bit, and another byte. -/
theorem test_witness_pixel : 0 < 8 ∧ 7 < 8 ∧ (0 : Nat) ≠ pixIndex Cfg.ref 127 63 := by decide +kernel

/-- Witness of BlockWrite: a pixel beside the block at the screen's last corner, and a byte that is not one of
the four. -/
theorem test_witness_block :
    126 < Cfg.ref.sw ∧ 63 < Cfg.ref.sh ∧
    (∀ dx dy : Fin 2, ¬ (126 = (127 + dx.val) % Cfg.ref.sw ∧ 63 = (63 + dy.val) % Cfg.ref.sh)) ∧
    (∀ dx dy : Fin 2, 1022 ≠ pixIndex Cfg.ref (127 + dx.val) (63 + dy.val)) := by decide +kernel

/-- Witness of CameraTickProperties: the altitude bound fits, new rolls of 24, -24, 7 and -7, roll 0. -/
theorem test_witness_tick :
    Cfg.ref.altMax < 2 ^ (Cfg.ref.ww - 1) ∧ (after (.camtick 4) (withAngles 0 23 0)).roll.toInt = 24 ∧
    (after (.camtick 8) (withAngles 0 233 0)).roll.toInt = -24 ∧
    (after (.camtick 4) (withAngles 0 6 0)).roll.toInt = 7 ∧
    (after (.camtick 8) (withAngles 0 250 0)).roll.toInt = -7 ∧ (withAngles 5 0 9).roll = 0#8 ∧
    (∃ t, exec (.camtick 0) (withAngles 5 0 9) = .next t) := by
  refine ⟨by decide +kernel, by decide +kernel, by decide +kernel, by decide +kernel, by decide +kernel,
    by decide +kernel, ⟨_, rfl⟩⟩

/-- Reset with the tick's angles in B0, B1, B2 and the altitude bounds in W1 and W2. -/
def beforePrimitives (t : State) : State :=
  ((((State.reset.writeB 0 t.pitch).writeB 1 t.roll).writeB 2 t.yaw).writeW 1 256).writeW 2 30720

/-- Witness of TickByPrimitiveCommands. -/
theorem test_witness_primitives :
    let s := State.reset
    let t := after (.camtick 6) s
    let s' := beforePrimitives t
    exec (.camtick 6) s = .next t ∧ s'.cfg = s.cfg ∧ s'.camPos = s.camPos ∧ s'.readB 0 = t.pitch ∧
    s'.readB 1 = t.roll ∧ s'.readB 2 = t.yaw ∧ s'.readW 1 = s.cfg.altMin ∧ s'.readW 2 = s.cfg.altMax := by
  refine ⟨rfl, rfl, rfl, ?_, ?_, ?_, ?_, ?_⟩ <;> decide +kernel

/-- Witness of FramePixels: the last pixel, the first index outside FB. -/
theorem test_witness_frame :
    127 < State.reset.cfg.sw ∧ 63 < State.reset.cfg.sh ∧ State.reset.cfg.fbSize ≤ 1024 := by decide +kernel

/-- Witness of FrameDependsOnTheCameraOnly: two states with the same camera and different frames. -/
theorem test_witness_sameCamera :
    (State.reset.writeFB 5 255).cfg = State.reset.cfg ∧ (State.reset.writeFB 5 255).camRot = State.reset.camRot ∧
    (State.reset.writeFB 5 255).camPos = State.reset.camPos ∧
    (State.reset.writeFB 5 255).rctrl.getLsbD 0 = State.reset.rctrl.getLsbD 0 ∧
    (State.reset.writeFB 5 255).readFB 5 ≠ State.reset.readFB 5 ∧ 5 < State.reset.cfg.fbSize := by
  refine ⟨rfl, rfl, rfl, rfl, ?_, ?_⟩ <;> decide +kernel

/-- Witness of FlatLevels: a sample of the first frame at each end of the two bands (rows 34, 32 and 30 of
R268; the y lanes are -8, 0 and 8), and -4 of row 33 in the full-resolution strategy. -/
theorem test_witness_flat :
    (direction Cfg.ref State.reset.camRot 0 34).y = -8 ∧ (direction Cfg.ref State.reset.camRot 126 32).y = 0 ∧
    (direction Cfg.ref State.reset.camRot 0 30).y = 8 ∧ (direction Cfg.ref State.reset.camRot 0 33).y = -4 := by
  decide +kernel


end Sys2Proof.Tests
end

