-- ==== Sys2Proof/Proofs/Scope.lean ====
section
/-! PROOFS. The family 00_scope.md. A step is a run of elementary writes (`Update`): that is said once of every
command and every host action, and what each write keeps is then kept by every step. -/

namespace Sys2Proof.Machine

open Sys2Proof.Safety

/-! ### What an action can do to the state -/

/-- One elementary write of the model: a lane, a register, a special register or FB, the model's own fields,
or a reset. A new framebuffer is in form whenever the old one is. -/
inductive Update (s : State) : State → Prop where
  | w (r : RegNo) (v : Int) : Update s (s.writeW r v)
  | n (r : RegNo) (v : Int) : Update s (s.writeN r v)
  | b (r : RegNo) (v : Byte) : Update s (s.writeB r v)
  | vw (r : RegNo) (v : V3) : Update s (s.writeVW r v)
  | vn (r : RegNo) (v : V3) : Update s (s.writeVN r v)
  | m (r : RegNo) (v : Mat) : Update s (s.writeM r v)
  | vwLane (r : RegNo) (l : Lane) (v : Int) : Update s (s.writeVWLane r l v)
  | vnLane (r : RegNo) (l : Lane) (v : Int) : Update s (s.writeVNLane r l v)
  | mLane (r : RegNo) (i j : Lane) (v : Int) : Update s (s.writeMLane r i j v)
  | camPos (v : V3) : Update s (s.writeCamPos v)
  | camPosLane (l : Lane) (v : Int) : Update s (s.writeCamPosLane l v)
  | camRot (v : Mat) : Update s (s.writeCamRot v)
  | angles (p r y : Byte) : Update s (s.writeAngles p r y)
  | rctrl (v : Byte) : Update s (s.writeRctrl v)
  | fb (m : Memory) (h : InForm s.cfg s.fb → InForm s.cfg m) : Update s { s with fb := m }
  | illegal : Update s s.takeIllegal
  | drawn : Update s s.drawn
  | cls (k : RayClass) : Update s (s.setCls k)
  | dist (d : Int) : Update s (s.setDist d)
  | reply (v : Int) : Update s (s.reply v)
  | reset : Update s s.hostReset

/-- A run of elementary writes. -/
abbrev Updates : State → State → Prop := Relation.ReflTransGen Update

/-- The meaning answers a next state, which a run of elementary writes of `s` leads to. -/
def Answers (s : State) (r : Result) : Prop := ∃ t, r = .next t ∧ Updates s t

theorem answers_next {s t : State} (h : Updates s t) : Answers s (.next t) := ⟨t, rfl, h⟩

theorem answers_of_update {s t : State} (h : Update s t) : Answers s (.next t) := answers_next (.single h)

/-- A distance that may be missing is at most one write (R262). -/
theorem updates_setDistIf (s : State) (d : Option Int) : Updates s (s.setDistIf d) := by
  cases d with
  | none => exact .refl
  | some d => exact .single (.dist d)

/-- The frame of REND, in either strategy, is in form when the old one is (R264, R265). -/
theorem inForm_render {c : Cfg} {fb : Memory} (h : InForm c fb) (full : Bool) (pos : V3) (k : CornerRays) :
    InForm c (if full then renderFull c pos k fb else renderCoarse c pos k fb) := by
  cases full with
  | true => exact inForm_renderFull h pos k
  | false => exact inForm_renderCoarse h pos k

/-- A command with a lane operand makes one write: its own, or that of an illegal word (R104 c). -/
theorem withLane_answers (f : BitVec 2) {s : State} {effect : Lane → State} (h : ∀ l, Update s (effect l)) :
    Answers s (withLane f s effect) := by
  obtain ⟨l, -, e⟩ | ⟨-, e⟩ := withLane_cases f s effect
  · exact e ▸ answers_of_update (h l)
  · exact e ▸ answers_of_update .illegal

/-- DIVW writes W[rd], after a draw when the divisor is 0 (R132). -/
theorem execDivw_answers (rd ra rb : RegNo) (s : State) : Answers s (execDivw rd ra rb s) := by
  unfold execDivw
  split
  · exact answers_next (.tail (.single .drawn) (.w rd _))
  · exact answers_of_update (.w rd _)

/-- DIVN writes N[rd], after a draw when the divisor is 0 (R133). -/
theorem execDivn_answers (rd ra rb : RegNo) (s : State) : Answers s (execDivn rd ra rb s) := by
  unfold execDivn
  split
  · exact answers_next (.tail (.single .drawn) (.n rd _))
  · exact answers_of_update (.n rd _)

/-- Every command completes, by elementary writes only (R280). The commands stand grouped by what they write. -/
theorem exec_answers (i : Instr) (s : State) : Answers s (exec i s) := by
  cases i with
  | divw rd ra rb => exact execDivw_answers rd ra rb s
  | divn rd ra rb => exact execDivn_answers rd ra rb s
  | liw | addw | subw | negw | mulw | mulwn | qdiv | cvtnw | clampw => exact answers_of_update (.w _ _)
  | lin | addn | subn | negn | muln | cvtwn | sin | cos => exact answers_of_update (.n _ _)
  | lib | addb | addib | negb | texg | texc | dqc | dqf => exact answers_of_update (.b _ _)
  | vaddw | vsubw | vsclwn | vcvtnw | vcrossw | vcam => exact answers_of_update (.vw _ _)
  | vaddn | vsubn | vscln | vcrossn | vlerpn | mvmul | mfwd => exact answers_of_update (.vn _ _)
  | mident | mrotx | mroty | mrotz | mmul | mtrans | mcam | mcami => exact answers_of_update (.m _ _)
  | vextw rd ra lane => exact withLane_answers lane fun _ => .w rd _
  | vextn rd ra lane => exact withLane_answers lane fun _ => .n rd _
  | vinsw rd ra lane => exact withLane_answers lane fun l => .vwLane rd l _
  | vinsn rd ra lane => exact withLane_answers lane fun l => .vnLane rd l _
  | rclass ra => exact answers_of_update (.cls _)
  | rgnd | rcld => exact answers_next (.tail (.single (.vw _ _)) (.dist _))
  | fbpix ra x y => exact answers_of_update (.fb _ fun h => inForm_setpix h _ _ _)
  | fbblk ra x y => exact answers_of_update (.fb _ fun h => inForm_setBlock h _ _ _)
  | fbst ra x page => exact answers_of_update (.fb _ fun h => inForm_write h (pageIndex_lt _ _ _) _)
  | camrot => exact answers_of_update (.camRot _)
  | camtick mask =>
    exact answers_next (.tail (.tail (.single (.angles _ _ _)) (.camRot _)) (.camPos _))
  | rcorn ra =>
    exact answers_next (.tail (.tail (.tail (.single (.vn _ _)) (.vn _ _)) (.vn _ _)) (.vn _ _))
  | rshade rd ra =>
    exact answers_next (.trans (.tail (.single (.b rd _)) (.cls _)) (updates_setDistIf _ _))
  | rend => exact answers_of_update (.fb _ fun h => inForm_render h _ _ _)

/-- A host write of a special register is at most one write; a missing lane or register is ignored (R36). -/
theorem updates_writeSpecial (s : State) (i l v : Nat) : Updates s (s.writeSpecial i l v) := by
  unfold State.writeSpecial
  split
  · split; exacts [.single (.camPosLane _ _), .refl]
  · split; exacts [.single (.angles _ _ _), .refl]
  · split; exacts [.single (.angles _ _ _), .refl]
  · split; exacts [.single (.angles _ _ _), .refl]
  · split; exacts [.single (.rctrl _), .refl]
  · exact .refl

/-- A host write of a general register is at most one write; a missing lane is ignored (R63). -/
theorem updates_writeGeneral (s : State) (f : Nat) (r : RegNo) (l v : Nat) :
    Updates s (s.writeGeneral f r l v) := by
  unfold State.writeGeneral
  split
  · split; exacts [.single (.w r _), .refl]
  · split; exacts [.single (.n r _), .refl]
  · split; exacts [.single (.b r _), .refl]
  · split; exacts [.single (.vwLane r _ _), .refl]
  · split; exacts [.single (.vnLane r _ _), .refl]
  · split; exacts [.single (.mLane r _ _ _), .refl]
  · exact .refl

/-- A host write of a register is at most one write (R63). -/
theorem updates_hostWriteReg (s : State) (f i l v : Nat) : Updates s (s.hostWriteReg f i l v) := by
  unfold State.hostWriteReg
  split_ifs
  · exact updates_writeSpecial s i l v
  · exact updates_writeGeneral s f _ l v
  · exact .refl

/-- A host write of memory is at most one write, of FB and inside FB (R64). -/
theorem updates_hostWriteMem (s : State) (sp : Space) (i : Nat) (v : Byte) :
    Updates s (s.hostWriteMem sp i v) := by
  cases sp with
  | fb =>
    unfold State.hostWriteMem
    by_cases hi : i < s.cfg.fbSize
    · rw [if_pos hi]; exact .single (.fb _ fun h => inForm_write h hi v)
    · rw [if_neg hi]
  | gtex | ctex | sintab | recip => exact .refl

/-- An issued word completes, whether it decodes or not (R104, R280). -/
theorem issueWord_answers (word : Word) (s : State) : Answers s (issueWord word s) := by
  unfold issueWord
  split
  · exact exec_answers _ s
  · exact answers_of_update .illegal

/-- Every host action completes, by elementary writes only (R62 to R65, R280). -/
theorem perform_answers (a : HostAction) (s : State) : Answers s (perform a s) := by
  cases a with
  | reset => exact answers_of_update .reset
  | readReg | readMem => exact answers_of_update (.reply _)
  | writeReg file idx lane value => exact answers_next (updates_hostWriteReg s file idx lane value)
  | writeMem space i byte => exact answers_next (updates_hostWriteMem s space i byte)
  | issue word => exact issueWord_answers word s

/-- With no action to come the state holds (R295). -/
theorem step_of_host_nil {s : State} (h : s.host = []) : step s = .next s := by
  rw [step, h]

/-- The step takes the next action off the list and performs it (R62 to R65). -/
theorem step_of_host_cons {s : State} {a : HostAction} {rest : List HostAction} (h : s.host = a :: rest) :
    step s = perform a { s with host := rest } := by
  rw [step, h]

/-- What a step can do: it takes the action off the list and makes elementary writes. -/
theorem step_answers (s : State) : Answers { s with host := s.host.tail } (step s) := by
  cases h : s.host with
  | nil =>
    rw [step_of_host_nil h]
    have hs : { s with host := ([] : List HostAction).tail } = s := by
      rw [List.tail_nil, ← h]
    rw [hs]
    exact answers_next .refl
  | cons a rest =>
    rw [step_of_host_cons h]
    exact perform_answers a _

/-! ### What every elementary write leaves -/

theorem Update.cfg_eq {s t : State} (h : Update s t) : t.cfg = s.cfg := by cases h <;> rfl

theorem Update.host_eq {s t : State} (h : Update s t) : t.host = s.host := by cases h <;> rfl

theorem Updates.cfg_eq {s t : State} (h : Updates s t) : t.cfg = s.cfg := by
  induction h with
  | refl => rfl
  | tail _ u ih => exact u.cfg_eq.trans ih

theorem Updates.host_eq {s t : State} (h : Updates s t) : t.host = s.host := by
  induction h with
  | refl => rfl
  | tail _ u ih => exact u.host_eq.trans ih

/-! ### The reset state -/

/-- The identity matrix, element by element (R180). -/
theorem get_identity (c : Cfg) (i j : Lane) : (identity c).get i j = if i = j then 2 ^ c.nf else 0 := by
  fin_cases i <;> fin_cases j <;> rfl

/-- The elements of the identity matrix are narrow raw values (R5, R180). -/
theorem fits_identity (c : Cfg) (i j : Lane) : Fits c.nw ((identity c).get i j) := by
  rw [get_identity]
  split
  · exact fits_oneN c
  · exact fits_zero _

theorem V3.Fits.get {w : Nat} {v : V3} (h : V3.Fits w v) (l : Lane) : Fits w (v.get l) := by
  obtain ⟨hx, hy, hz⟩ := h
  fin_cases l
  · exact hx
  · exact hy
  · exact hz

@[simp] theorem V3.get_zero (l : Lane) : V3.zero.get l = 0 := by fin_cases l <;> rfl

@[simp] theorem Mat.get_zero (i j : Lane) : Mat.zero.get i j = 0 := by
  fin_cases i <;> fin_cases j <;> rfl

@[simp] theorem readW_resetWith (c : Cfg) (r : RegNo) : (State.resetWith c).readW r = 0 :=
  Vector.getElem_replicate r.isLt

@[simp] theorem readN_resetWith (c : Cfg) (r : RegNo) : (State.resetWith c).readN r = 0 :=
  Vector.getElem_replicate r.isLt

@[simp] theorem readVW_resetWith (c : Cfg) (r : RegNo) : (State.resetWith c).readVW r = V3.zero :=
  Vector.getElem_replicate r.isLt

@[simp] theorem readVN_resetWith (c : Cfg) (r : RegNo) : (State.resetWith c).readVN r = V3.zero :=
  Vector.getElem_replicate r.isLt

@[simp] theorem readM_resetWith (c : Cfg) (r : RegNo) : (State.resetWith c).readM r = Mat.zero :=
  Vector.getElem_replicate r.isLt

/-- Every lane of the reset state is in range (R9, R40). -/
theorem lanesInRange_resetWith (c : Cfg) : LanesInRange (State.resetWith c) where
  w r := by rw [readW_resetWith]; exact fits_zero _
  n r := by rw [readN_resetWith]; exact fits_zero _
  vw r l := by rw [readVW_resetWith, V3.get_zero]; exact fits_zero _
  vn r l := by rw [readVN_resetWith, V3.get_zero]; exact fits_zero _
  m r i j := by rw [readM_resetWith, Mat.get_zero]; exact fits_zero _
  camPos l := V3.Fits.get c.ok.initPos_fits l
  camRot := fits_identity c
  dist := fits_zero _

/-- The reset state of a configuration meets the invariant (R40). -/
theorem inv_resetWith (c : Cfg) : Inv (State.resetWith c) where
  lanes := lanesInRange_resetWith c
  inverse i j := by
    change (identity c).get i j = (identity c).get j i
    rw [get_identity, get_identity]
    simp only [eq_comm]
  reserved := ⟨BitVec.zero_and, BitVec.zero_and⟩
  fb := ⟨rfl, fun _ h => absurd h List.not_mem_nil⟩

/-! ### Every elementary write keeps the invariant -/

section Invariant

variable {s : State}

/-! The parts that the invariant does not read: B, the angles, CLS and the model's own fields. -/

theorem inv_host (h : Inv s) (rest : List HostAction) : Inv { s with host := rest } :=
  { h with lanes := { h.lanes with } }

theorem inv_writeB (h : Inv s) (r : RegNo) (v : Byte) : Inv (s.writeB r v) :=
  { h with lanes := { h.lanes with } }

theorem inv_writeAngles (h : Inv s) (p r y : Byte) : Inv (s.writeAngles p r y) :=
  { h with lanes := { h.lanes with } }

theorem inv_drawn (h : Inv s) : Inv s.drawn := { h with lanes := { h.lanes with } }

theorem inv_setCls (h : Inv s) (k : RayClass) : Inv (s.setCls k) := { h with lanes := { h.lanes with } }

theorem inv_reply (h : Inv s) (v : Int) : Inv (s.reply v) := { h with lanes := { h.lanes with } }

/-! The parts that it reads. -/

/-- The host's own fields of a reset do not matter to the invariant (R62). -/
theorem inv_hostReset (s : State) : Inv s.hostReset :=
  { inv_resetWith s.cfg with lanes := { lanesInRange_resetWith s.cfg with } }

theorem inv_writeW (h : Inv s) (r : RegNo) (v : Int) : Inv (s.writeW r v) :=
  { h with
    lanes := { h.lanes with
      w := fun q => by
        rw [State.readW_writeW]
        split
        · exact fits_wrapW s.cfg v
        · exact h.lanes.w q } }

theorem inv_writeN (h : Inv s) (r : RegNo) (v : Int) : Inv (s.writeN r v) :=
  { h with
    lanes := { h.lanes with
      n := fun q => by
        rw [State.readN_writeN]
        split
        · exact fits_wrapN s.cfg v
        · exact h.lanes.n q } }

theorem inv_writeVW (h : Inv s) (r : RegNo) (v : V3) : Inv (s.writeVW r v) :=
  { h with
    lanes := { h.lanes with
      vw := fun q l => by
        rw [State.readVW_writeVW]
        split
        · rw [V3.get_map]; exact fits_wrapW s.cfg _
        · exact h.lanes.vw q l } }

theorem inv_writeVN (h : Inv s) (r : RegNo) (v : V3) : Inv (s.writeVN r v) :=
  { h with
    lanes := { h.lanes with
      vn := fun q l => by
        rw [State.readVN_writeVN]
        split
        · rw [V3.get_map]; exact fits_wrapN s.cfg _
        · exact h.lanes.vn q l } }

theorem inv_writeM (h : Inv s) (r : RegNo) (v : Mat) : Inv (s.writeM r v) :=
  { h with
    lanes := { h.lanes with
      m := fun q i j => by
        rw [State.readM_writeM]
        split
        · rw [Mat.get_map]; exact fits_wrapN s.cfg _
        · exact h.lanes.m q i j } }

/-- Replacing one lane by a value in range keeps a vector in range. -/
theorem fits_get_set {w : Nat} {v : V3} {a : Int} (hv : ∀ l, Fits w (v.get l)) (ha : Fits w a)
    (l k : Lane) : Fits w ((v.set l a).get k) := by
  rw [V3.get_set]
  split
  · exact ha
  · exact hv k

theorem inv_writeVWLane (h : Inv s) (r : RegNo) (l : Lane) (v : Int) : Inv (s.writeVWLane r l v) :=
  { h with
    lanes := { h.lanes with
      vw := fun q k => by
        rw [State.readVW_writeVWLane]
        split
        · exact fits_get_set (h.lanes.vw r) (fits_wrapW s.cfg v) l k
        · exact h.lanes.vw q k } }

theorem inv_writeVNLane (h : Inv s) (r : RegNo) (l : Lane) (v : Int) : Inv (s.writeVNLane r l v) :=
  { h with
    lanes := { h.lanes with
      vn := fun q k => by
        rw [State.readVN_writeVNLane]
        split
        · exact fits_get_set (h.lanes.vn r) (fits_wrapN s.cfg v) l k
        · exact h.lanes.vn q k } }

theorem inv_writeMLane (h : Inv s) (r : RegNo) (i j : Lane) (v : Int) : Inv (s.writeMLane r i j v) :=
  { h with
    lanes := { h.lanes with
      m := fun q i' j' => by
        rw [State.readM_writeMLane]
        split
        · rw [Mat.get_set]
          split
          · exact fits_wrapN s.cfg v
          · exact h.lanes.m r i' j'
        · exact h.lanes.m q i' j' } }

theorem inv_writeCamPos (h : Inv s) (v : V3) : Inv (s.writeCamPos v) :=
  { h with
    lanes := { h.lanes with
      camPos := fun l => by rw [State.writeCamPos_camPos, V3.get_map]; exact fits_wrapW s.cfg _ } }

theorem inv_writeCamPosLane (h : Inv s) (l : Lane) (v : Int) : Inv (s.writeCamPosLane l v) :=
  { h with
    lanes := { h.lanes with
      camPos := fits_get_set h.lanes.camPos (fits_wrapW s.cfg v) l } }

/-- A write of CAM_ROT installs its transpose with it (R28). -/
theorem inv_writeCamRot (h : Inv s) (v : Mat) : Inv (s.writeCamRot v) :=
  { h with
    lanes := { h.lanes with
      camRot := fun i j => by rw [State.writeCamRot_camRot, Mat.get_map]; exact fits_wrapN s.cfg _ }
    inverse := camInv_writeCamRot s v }

theorem inv_setDist (h : Inv s) (d : Int) : Inv (s.setDist d) :=
  { h with lanes := { h.lanes with dist := fits_wrapW s.cfg d } }

/-- RCTRL keeps bit 0 only of what is written (R30). -/
theorem inv_writeRctrl (h : Inv s) (v : Byte) : Inv (s.writeRctrl v) :=
  have hrctrl : (v &&& 1#8) &&& 0xFE#8 = 0#8 := by
    rw [BitVec.and_assoc]
    exact BitVec.and_zero
  { h with lanes := { h.lanes with }, reserved := ⟨hrctrl, h.reserved.2⟩ }

/-- An illegal word sets bit 0 of STATUS, which is not reserved (R31, R104). -/
theorem inv_takeIllegal (h : Inv s) : Inv s.takeIllegal :=
  have hstatus : (s.status ||| 1#8) &&& 0xFE#8 = 0#8 := by
    rw [BitVec.and_comm, BitVec.and_or_distrib_left, BitVec.and_comm, h.reserved.2]
    rfl
  { h with lanes := { h.lanes with }, reserved := ⟨h.reserved.1, hstatus⟩ }

/-- A framebuffer in form keeps the invariant (R60). -/
theorem inv_fb (h : Inv s) {m : Memory} (hm : InForm s.cfg m) : Inv { s with fb := m } :=
  { h with lanes := { h.lanes with }, fb := hm }

end Invariant

/-- Every elementary write keeps the invariant. -/
theorem Update.inv {s t : State} (u : Update s t) (h : Inv s) : Inv t := by
  cases u with
  | w r v => exact inv_writeW h r v
  | n r v => exact inv_writeN h r v
  | b r v => exact inv_writeB h r v
  | vw r v => exact inv_writeVW h r v
  | vn r v => exact inv_writeVN h r v
  | m r v => exact inv_writeM h r v
  | vwLane r l v => exact inv_writeVWLane h r l v
  | vnLane r l v => exact inv_writeVNLane h r l v
  | mLane r i j v => exact inv_writeMLane h r i j v
  | camPos v => exact inv_writeCamPos h v
  | camPosLane l v => exact inv_writeCamPosLane h l v
  | camRot v => exact inv_writeCamRot h v
  | angles p r y => exact inv_writeAngles h p r y
  | rctrl v => exact inv_writeRctrl h v
  | fb m hm => exact inv_fb h (hm h.fb)
  | illegal => exact inv_takeIllegal h
  | drawn => exact inv_drawn h
  | cls k => exact inv_setCls h k
  | dist d => exact inv_setDist h d
  | reply v => exact inv_reply h v
  | reset => exact inv_hostReset s

theorem Updates.inv {s t : State} (u : Updates s t) (h : Inv s) : Inv t := by
  induction u with
  | refl => exact h
  | tail _ u ih => exact u.inv ih

/-! ### The top bit of a bit pattern -/

/-- The top bit of a pattern of `w` bits is set exactly from 2^(w-1) up (R9). -/
theorem testBit_top_iff {w p : Nat} (hw : 1 ≤ w) (hp : p < 2 ^ w) :
    p.testBit (w - 1) = true ↔ 2 ^ (w - 1) ≤ p := by
  constructor
  · exact Nat.ge_two_pow_of_testBit
  · intro h
    exact Nat.testBit_of_two_pow_le_and_two_pow_add_one_gt h (by rwa [Nat.sub_add_cancel hw])

/-- The wrap of a bit pattern is its signed reading (R9). -/
theorem wrap_natCast_eq {w p : Nat} (hw : 1 ≤ w) (hp : p < 2 ^ w) :
    wrap w p = if p.testBit (w - 1) then (p : Int) - 2 ^ w else (p : Int) := by
  have htop := testBit_top_iff hw hp
  have hhalf := two_pow_half hw
  have hp' : (p : Int) < 2 ^ w := by exact_mod_cast hp
  symm
  by_cases h : p.testBit (w - 1) = true
  · rw [if_pos h]
    have hle : (2 : Int) ^ (w - 1) ≤ p := by exact_mod_cast htop.1 h
    exact eq_wrap_of_fits_of_dvd hw ⟨by omega, by omega⟩ ⟨-1, by ring⟩
  · rw [if_neg h]
    have hlt : (p : Int) < 2 ^ (w - 1) := by exact_mod_cast Nat.lt_of_not_le (mt htop.2 h)
    exact (wrap_of_fits hw ⟨by omega, hlt⟩).symm

end Sys2Proof.Machine

/-! ### The obligations -/

namespace Sys2Proof.Proofs

open Sys2Proof.Machine Sys2Proof.Safety

/-- Settles O8: a step is a run of elementary writes, and each keeps the invariant. -/
theorem stepKeepsInvariant : Obligations.StepKeepsInvariant := by
  unfold Obligations.StepKeepsInvariant
  intro s t hs ht
  obtain ⟨u, hu, hsu⟩ := step_answers s
  obtain rfl : t = u := by
    rw [ht] at hu
    exact Host.Outcome.next.inj hu
  exact hsu.inv (inv_host hs _)

/-- Settles O7: a step is a run of elementary writes, none of which touches CFG or the list of actions. -/
theorem everyStepCompletes : Obligations.EveryStepCompletes := by
  unfold Obligations.EveryStepCompletes
  intro s
  obtain ⟨t, ht, hst⟩ := step_answers s
  exact ⟨t, ht, hst.cfg_eq, hst.host_eq⟩

/-- Settles O10: the action puts the reset state of the configuration in place, all but the host's own fields. -/
theorem resetValues : Obligations.ResetValues := by
  unfold Obligations.ResetValues
  intro IsReset
  have hvalues (c : Cfg) : IsReset c (State.resetWith c) :=
    ⟨rfl, rfl, get_identity c, get_identity c, rfl, rfl, rfl, rfl, rfl, rfl, rfl⟩
  refine ⟨fun s rest h => ?_, hvalues, hvalues Cfg.ref⟩
  exact ⟨_, step_of_host_cons h, rfl, hvalues s.cfg⟩

/-- Settles O16, from the range and the congruence of wrap and their one solution. -/
theorem wrapIsTheUniqueNumberInRange : Obligations.WrapIsTheUniqueNumberInRange := by
  unfold Obligations.WrapIsTheUniqueNumberInRange
  refine ⟨fun w z v hw => ⟨fun h => eq_wrap_of_fits_of_dvd hw h.1 h.2, ?_⟩, fun w z hw h => wrap_of_fits hw h,
    fun w p hw hp => wrap_natCast_eq hw hp, fun c z => ⟨rfl, rfl⟩⟩
  rintro rfl
  exact ⟨fits_wrap hw z, dvd_wrap_sub w z⟩

end Sys2Proof.Proofs
end

/-! PROOFS. The family 10_state.md. What each command writes is said once (`writtenParts`), what the host port
reads and writes once per kind of lane; the writers of the special registers, the life of STATUS and the
register port follow. -/

namespace Sys2Proof.Machine

open Sys2Proof.Safety Sys2Proof.Claims

section Frames

variable (s : State)

/-! ### The frames of the remaining updates -/

theorem sameOutside_drawn : SameOutside [.draws] s s.drawn := by
  intro p hp; cases p <;> simp_all [SamePart]

theorem sameOutside_reply (v : Int) : SameOutside [.readData] s (s.reply v) := by
  intro p hp; cases p <;> simp_all [SamePart]

theorem sameOutside_writeMLane (r : RegNo) (i j : Lane) (v : Int) :
    SameOutside [.m] s (s.writeMLane r i j v) := by
  intro p hp; cases p <;> simp_all [SamePart]

theorem sameOutside_writeCamPosLane (l : Lane) (v : Int) :
    SameOutside [.camPos] s (s.writeCamPosLane l v) := by
  intro p hp; cases p <;> simp_all [SamePart]

theorem sameOutside_writePitch (v : Byte) : SameOutside [.pitch] s (s.writeAngles v s.roll s.yaw) := by
  intro p hp; cases p <;> simp_all [SamePart]

theorem sameOutside_writeRoll (v : Byte) : SameOutside [.roll] s (s.writeAngles s.pitch v s.yaw) := by
  intro p hp; cases p <;> simp_all [SamePart]

theorem sameOutside_writeYaw (v : Byte) : SameOutside [.yaw] s (s.writeAngles s.pitch s.roll v) := by
  intro p hp; cases p <;> simp_all [SamePart]

theorem sameOutside_writeRctrl (v : Byte) : SameOutside [.rctrl] s (s.writeRctrl v) := by
  intro p hp; cases p <;> simp_all [SamePart]

theorem sameOutside_setDistIf (d : Option Int) : SameOutside [.dist] s (s.setDistIf d) := by
  cases d with
  | none => exact sameOutside_refl s _
  | some d => exact sameOutside_setDist s d

/-- Taking an action off the list touches the list only. -/
theorem sameOutside_host (rest : List HostAction) : SameOutside [.host] s { s with host := rest } := by
  intro p hp
  cases p with
  | host => exact absurd (List.mem_singleton_self _) hp
  | w | n | b | vw | vn | m | fb => exact fun _ => rfl
  | _ => rfl

end Frames

/-- Two updates in a row write the parts of both. -/
theorem SameOutside.append {ps qs : List Part} {s t u : State} (h : SameOutside ps s t)
    (k : SameOutside qs t u) : SameOutside (ps ++ qs) s u :=
  SameOutside.trans (SameOutside.mono h fun _ => List.mem_append_left qs)
    (SameOutside.mono k fun _ => List.mem_append_right ps)

/-- A part that changed is one of the written ones. -/
theorem SameOutside.mem_of_changed {ps : List Part} {s t : State} {p : Part} (h : SameOutside ps s t)
    (hp : ¬ SamePart s t p) : p ∈ ps := by
  by_contra hn
  exact hp (h p hn)

/-! ### What each command writes -/

/-- The parts of the state that a command may write: the destination of its row in R98, and the special
registers and FB of R35 and R60. -/
def writtenParts : Instr → List Part
  | .liw .. | .addw .. | .subw .. | .negw .. | .mulw .. | .mulwn .. | .qdiv .. | .cvtnw .. | .clampw ..
  | .vextw .. => [.w]
  | .lin .. | .addn .. | .subn .. | .negn .. | .muln .. | .cvtwn .. | .sin .. | .cos .. | .vextn .. => [.n]
  | .divw .. => [.draws, .w]
  | .divn .. => [.draws, .n]
  | .lib .. | .addb .. | .addib .. | .negb .. | .texg .. | .texc .. | .dqc .. | .dqf .. => [.b]
  | .vaddw .. | .vsubw .. | .vsclwn .. | .vcvtnw .. | .vcrossw .. | .vinsw .. | .vcam .. => [.vw]
  | .vaddn .. | .vsubn .. | .vscln .. | .vcrossn .. | .vlerpn .. | .vinsn .. | .mvmul .. | .mfwd ..
  | .rcorn .. => [.vn]
  | .mident .. | .mrotx .. | .mroty .. | .mrotz .. | .mmul .. | .mtrans .. | .mcam .. | .mcami .. => [.m]
  | .rclass .. => [.cls]
  | .rgnd .. | .rcld .. => [.vw, .dist]
  | .rshade .. => [.b, .cls, .dist]
  | .fbpix .. | .fbblk .. | .fbst .. | .rend => [.fb]
  | .camrot => [.camRot, .camInv]
  | .camtick .. => [.pitch, .roll, .yaw, .camRot, .camInv, .camPos]

/-- The meaning answers a next state that differs from `s` in the parts `ps` only. -/
def Writes (ps : List Part) (s : State) (r : Result) : Prop := ∃ t, r = .next t ∧ SameOutside ps s t

theorem writes_next {ps : List Part} {s t : State} (h : SameOutside ps s t) : Writes ps s (.next t) :=
  ⟨t, rfl, h⟩

theorem Writes.sameOutside {ps : List Part} {s t : State} (h : Writes ps s (.next t)) :
    SameOutside ps s t := by
  obtain ⟨u, hu, hs⟩ := h
  exact Host.Outcome.next.inj hu ▸ hs

/-- A command with a legal lane writes what its effect writes (R104 c). -/
theorem withLane_writes {f : BitVec 2} {s : State} {effect : Lane → State} {ps : List Part}
    (hf : laneOk f = true) (h : ∀ l, SameOutside ps s (effect l)) : Writes ps s (withLane f s effect) := by
  obtain ⟨l, -, e⟩ | ⟨rfl, -⟩ := withLane_cases f s effect
  · exact e ▸ writes_next (h l)
  · exact absurd hf (by decide)

/-- DIVW writes W[rd], and draws a value when the divisor is 0 (R132). -/
theorem execDivw_writes (rd ra rb : RegNo) (s : State) : Writes [.draws, .w] s (execDivw rd ra rb s) := by
  have hw (u : State) (v : Int) : SameOutside [.w] u (u.writeW rd v) := (wroteW_writeW u rd v).2.2
  unfold execDivw
  split
  · exact writes_next (SameOutside.append (sameOutside_drawn s) (hw _ _))
  · exact writes_next (SameOutside.mono (hw _ _) (by decide))

/-- DIVN writes N[rd], and draws a value when the divisor is 0 (R133). -/
theorem execDivn_writes (rd ra rb : RegNo) (s : State) : Writes [.draws, .n] s (execDivn rd ra rb s) := by
  have hn (u : State) (v : Int) : SameOutside [.n] u (u.writeN rd v) := (wroteN_writeN u rd v).2.2
  unfold execDivn
  split
  · exact writes_next (SameOutside.append (sameOutside_drawn s) (hn _ _))
  · exact writes_next (SameOutside.mono (hn _ _) (by decide))

/-- RCORN writes four registers of one file (R260). -/
theorem execRcorn_writes (ra : RegNo) (s : State) : Writes [.vn] s (execRcorn ra s) := by
  have hvn (u : State) (r : RegNo) (v : V3) : SameOutside [.vn] u (u.writeVN r v) :=
    (wroteVN_writeVN u r v).2.2
  exact writes_next (SameOutside.trans (SameOutside.trans (SameOutside.trans (hvn _ _ _) (hvn _ _ _))
    (hvn _ _ _)) (hvn _ _ _))

/-- CAMTICK writes the angles, the rotation with its inverse, and the position (R242). -/
theorem execCamtick_writes (mask : BitVec 4) (s : State) :
    Writes [.pitch, .roll, .yaw, .camRot, .camInv, .camPos] s (execCamtick mask s) :=
  writes_next (SameOutside.append
    (SameOutside.append (sameOutside_writeAngles _ _ _ _) (sameOutside_writeCamRot _ _))
    (sameOutside_writeCamPos _ _))

/-- A command of the table writes the parts listed for it and nothing else. -/
theorem exec_writes {i : Instr} (hi : i.wellFormed = true) (s : State) :
    Writes (writtenParts i) s (exec i s) := by
  cases i with
  | divw rd ra rb => exact execDivw_writes rd ra rb s
  | divn rd ra rb => exact execDivn_writes rd ra rb s
  | liw | addw | subw | negw | mulw | mulwn | qdiv | cvtnw | clampw =>
    exact writes_next (wroteW_writeW s _ _).2.2
  | lin | addn | subn | negn | muln | cvtwn | sin | cos => exact writes_next (wroteN_writeN s _ _).2.2
  | lib | addb | addib | negb | texg | texc | dqc | dqf => exact writes_next (wroteB_writeB s _ _).2.2
  | vaddw | vsubw | vsclwn | vcvtnw | vcrossw | vcam => exact writes_next (wroteVW_writeVW s _ _).2.2
  | vaddn | vsubn | vscln | vcrossn | vlerpn | mvmul | mfwd => exact writes_next (wroteVN_writeVN s _ _).2.2
  | mident | mrotx | mroty | mrotz | mmul | mtrans | mcam | mcami =>
    exact writes_next (wroteM_writeM s _ _).2.2
  | vextw rd => exact withLane_writes hi fun _ => (wroteW_writeW s rd _).2.2
  | vextn rd => exact withLane_writes hi fun _ => (wroteN_writeN s rd _).2.2
  | vinsw rd => exact withLane_writes hi fun l => (wroteVW_writeVWLane s rd l _).2.2
  | vinsn rd => exact withLane_writes hi fun l => (wroteVN_writeVNLane s rd l _).2.2
  | rclass => exact writes_next (sameOutside_setCls s _)
  | rgnd rd | rcld rd =>
    exact writes_next (SameOutside.append (wroteVW_writeVW s rd _).2.2 (sameOutside_setDist _ _))
  | rshade rd =>
    exact writes_next (SameOutside.append
      (SameOutside.append (wroteB_writeB s rd _).2.2 (sameOutside_setCls _ _)) (sameOutside_setDistIf _ _))
  | fbpix | fbblk | fbst | rend => exact writes_next (sameOutside_fb s _)
  | camrot => exact writes_next (sameOutside_writeCamRot s _)
  | camtick mask => exact execCamtick_writes mask s
  | rcorn ra => exact execRcorn_writes ra s

theorem sameOutside_of_exec {i : Instr} {s t : State} (hi : i.wellFormed = true) (h : exec i s = .next t) :
    SameOutside (writtenParts i) s t :=
  Writes.sameOutside (h ▸ exec_writes hi s)

/-! ### The column "written by commands" of R35 -/

theorem camPos_mem_writtenParts {i : Instr} : .camPos ∈ writtenParts i → ∃ mask, i = .camtick mask := by
  cases i <;> simp [writtenParts]

theorem camRot_mem_writtenParts {i : Instr} :
    .camRot ∈ writtenParts i ∨ .camInv ∈ writtenParts i → i = .camrot ∨ ∃ mask, i = .camtick mask := by
  cases i <;> simp [writtenParts]

theorem angle_mem_writtenParts {i : Instr} :
    .pitch ∈ writtenParts i ∨ .roll ∈ writtenParts i ∨ .yaw ∈ writtenParts i →
      ∃ mask, i = .camtick mask := by
  cases i <;> simp [writtenParts]

theorem cls_mem_writtenParts {i : Instr} :
    .cls ∈ writtenParts i → (∃ ra, i = .rclass ra) ∨ ∃ rd ra, i = .rshade rd ra := by
  cases i <;> simp [writtenParts]

theorem dist_mem_writtenParts {i : Instr} :
    .dist ∈ writtenParts i →
      (∃ rd ra rb, i = .rgnd rd ra rb) ∨ (∃ rd ra rb, i = .rcld rd ra rb) ∨ ∃ rd ra, i = .rshade rd ra := by
  cases i <;> simp [writtenParts]

theorem fb_mem_writtenParts {i : Instr} :
    .fb ∈ writtenParts i →
      (∃ ra x y, i = .fbpix ra x y) ∨ (∃ ra x y, i = .fbblk ra x y) ∨ (∃ ra x y, i = .fbst ra x y) ∨
        i = .rend := by
  cases i <;> simp [writtenParts]

theorem rctrl_notMem_writtenParts (i : Instr) : .rctrl ∉ writtenParts i := by
  cases i <;> simp [writtenParts]

theorem status_notMem_writtenParts (i : Instr) : .status ∉ writtenParts i := by
  cases i <;> simp [writtenParts]

/-! ### A word that decodes -/

/-- The command that a check of the reserved bits lets through is the one it was given (R99). -/
theorem eq_of_legal {w zeros : Word} {i j : Instr} (h : legal w zeros i = .ok j) : i = j := by
  unfold legal at h
  split at h
  · exact Except.ok.inj h
  · cases h

/-- With the check of the lane field, the lane is one too (R99). -/
theorem eq_of_legalLane {w zeros : Word} {i j : Instr} (h : legalLane w zeros i = .ok j) :
    i = j ∧ laneOk (laneField w) = true := by
  unfold legalLane at h
  split_ifs at h with hz hl
  exact ⟨Except.ok.inj h, hl⟩

/-- A word decodes to a command of the table only: most rows check the reserved bits, four the lane too, and the
last of the match has no command (R98, R104). -/
theorem wellFormed_of_decode {w : Word} {i : Instr} (h : decode w = .ok i) : i.wellFormed = true := by
  unfold decode at h
  split at h
  case h_34 | h_35 | h_36 | h_37 =>
    obtain ⟨rfl, hl⟩ := eq_of_legalLane h
    exact hl
  case h_64 => cases h
  all_goals
    obtain rfl := eq_of_legal h
    rfl

/-! ### The lanes of the host port -/

theorem vectorLane_eq_some {l : Nat} {j : Lane} : vectorLane l = some j ↔ l = j.val := by
  unfold vectorLane
  split_ifs with h
  · simp [Fin.ext_iff]
  · simp only [false_iff]
    omega

theorem matrixLane_eq_some {l : Nat} {i j : Lane} :
    matrixLane l = some (i, j) ↔ l = 3 * i.val + j.val := by
  unfold matrixLane
  split_ifs with h
  · simp only [Option.some.injEq, Prod.mk.injEq, Fin.ext_iff]
    omega
  · simp only [false_iff]
    omega

theorem scalarLane_eq_some {l : Nat} {u : Unit} : scalarLane l = some u ↔ l = 0 := by
  simp [scalarLane]

/-- The lanes of the port are the lanes of the model (R24, R26, R63). -/
theorem scalarPort_eq_map (w : Nat) (v : Int) (l : Nat) :
    scalarPort w v l = (scalarLane l).map fun _ => (w, v) := by
  unfold scalarPort scalarLane
  split_ifs <;> rfl

theorem vectorPort_eq_map (w : Nat) (v : V3) (l : Nat) :
    vectorPort w v l = (vectorLane l).map fun j => (w, v.get j) := by
  unfold vectorPort vectorLane
  split_ifs with h
  · have hl : Fin.ofNat 3 l = ⟨l, h⟩ := Fin.ext (Nat.mod_eq_of_lt h)
    rw [hl]; rfl
  · rfl

theorem matrixPort_eq_map (w : Nat) (m : Mat) (l : Nat) :
    matrixPort w m l = (matrixLane l).map fun ij => (w, m.get ij.1 ij.2) := by
  unfold matrixPort matrixLane
  split_ifs with h
  · have hi : Fin.ofNat 3 (l / 3) = ⟨l / 3, by omega⟩ := Fin.ext (Nat.mod_eq_of_lt (by omega))
    have hj : Fin.ofNat 3 (l % 3) = ⟨l % 3, by omega⟩ := Fin.ext (Nat.mod_eq_of_lt (by omega))
    rw [hi, hj]; rfl
  · rfl

/-- A lane that the port has is a lane of the model, of the width of its register (R24, R26, R63). -/
theorem lane_of_scalarPort {w w' l : Nat} {v x : Int} (h : scalarPort w v l = some (w', x)) :
    l = 0 ∧ w' = w := by
  rw [scalarPort_eq_map, Option.map_eq_some_iff] at h
  obtain ⟨_, hl, hw⟩ := h
  exact ⟨scalarLane_eq_some.1 hl, (Prod.mk.inj hw).1.symm⟩

theorem lane_of_vectorPort {w w' l : Nat} {v : V3} {x : Int} (h : vectorPort w v l = some (w', x)) :
    ∃ j : Lane, l = j.val ∧ w' = w := by
  rw [vectorPort_eq_map, Option.map_eq_some_iff] at h
  obtain ⟨j, hl, hw⟩ := h
  exact ⟨j, vectorLane_eq_some.1 hl, (Prod.mk.inj hw).1.symm⟩

theorem lane_of_matrixPort {w w' l : Nat} {m : Mat} {x : Int} (h : matrixPort w m l = some (w', x)) :
    ∃ i j : Lane, l = 3 * i.val + j.val ∧ w' = w := by
  rw [matrixPort_eq_map, Option.map_eq_some_iff] at h
  obtain ⟨⟨i, j⟩, hl, hw⟩ := h
  exact ⟨i, j, matrixLane_eq_some.1 hl, (Prod.mk.inj hw).1.symm⟩

/-! ### What the port answers -/

/-- The bit pattern of a lane of the port, 0 for a missing one (R63). -/
def portPattern : Option (Nat × Int) → Nat
  | some (w, v) => pattern w v
  | none => 0

/-- A bit vector is the pattern of its own number. -/
theorem pattern_toNat {w : Nat} (b : BitVec w) : pattern w (b.toNat : Int) = b.toNat := by
  unfold pattern
  rw [← Int.natCast_emod, Int.toNat_natCast, Nat.mod_eq_of_lt b.isLt]

/-- The pattern is congruent to the lane modulo 2^w (R9). -/
theorem dvd_pattern_sub (w : Nat) (z : Int) : (2 : Int) ^ w ∣ pattern w z - z := by
  have hc : (((2 : Nat) ^ w : Nat) : Int) = 2 ^ w := by push_cast; rfl
  have hpos : (2 : Int) ^ w ≠ 0 := by positivity
  unfold pattern
  rw [hc, Int.toNat_of_nonneg (Int.emod_nonneg z hpos)]
  exact Int.dvd_emod_sub_self

theorem readScalarLane_eq (w : Nat) (v : Int) (l : Nat) :
    readScalarLane (pattern w v) l = portPattern (scalarPort w v l) := by
  unfold readScalarLane scalarPort
  split_ifs <;> rfl

theorem readScalarLane_toNat_eq {w : Nat} (b : BitVec w) (l : Nat) :
    readScalarLane b.toNat l = portPattern (scalarPort w b.toNat l) := by
  rw [← readScalarLane_eq, pattern_toNat]

theorem readVectorLane_eq (w : Nat) (v : V3) (l : Nat) :
    readVectorLane w v l = portPattern (vectorPort w v l) := by
  rw [vectorPort_eq_map, readVectorLane]
  cases vectorLane l <;> rfl

theorem readMatrixLane_eq (w : Nat) (m : Mat) (l : Nat) :
    readMatrixLane w m l = portPattern (matrixPort w m l) := by
  rw [matrixPort_eq_map, readMatrixLane]
  cases matrixLane l <;> rfl

theorem readSpecial_eq (s : State) (i l : Nat) : s.readSpecial i l = portPattern (specialPort s i l) :=
  match i with
  | 0 => readVectorLane_eq s.cfg.ww s.camPos l
  | 1 => readMatrixLane_eq s.cfg.nw s.camRot l
  | 2 => readMatrixLane_eq s.cfg.nw s.camInv l
  | 3 => readScalarLane_toNat_eq s.pitch l
  | 4 => readScalarLane_toNat_eq s.roll l
  | 5 => readScalarLane_toNat_eq s.yaw l
  | 6 => readScalarLane_toNat_eq s.rctrl l
  | 7 => readScalarLane_toNat_eq s.status l
  | 8 => readScalarLane_toNat_eq s.cls l
  | 9 => readScalarLane_eq s.cfg.ww s.dist l
  | _ + 10 => rfl

theorem readGeneral_eq (s : State) (f : Nat) (r : RegNo) (l : Nat) :
    s.readGeneral f r l = portPattern (generalPort s f r l) :=
  match f with
  | 0 => readScalarLane_eq s.cfg.ww (s.readW r) l
  | 1 => readScalarLane_eq s.cfg.nw (s.readN r) l
  | 2 => readScalarLane_toNat_eq (s.readB r) l
  | 3 => readVectorLane_eq s.cfg.ww (s.readVW r) l
  | 4 => readVectorLane_eq s.cfg.nw (s.readVN r) l
  | 5 => readMatrixLane_eq s.cfg.nw (s.readM r) l
  | _ + 6 => rfl

/-- A host read answers the pattern of the lane it names (R63). -/
theorem hostReadReg_eq (s : State) (f i l : Nat) : s.hostReadReg f i l = portPattern (portLane s f i l) := by
  unfold State.hostReadReg portLane
  split_ifs
  · exact readSpecial_eq s i l
  · exact readGeneral_eq s f _ l
  · rfl

/-! ### A host read depends on one part only -/

/-- The part of the state that holds the lanes of (file, idx) (R35, R63); CFG, which no action writes, where
there are none. -/
def lanePart (file idx : Nat) : Part :=
  match file with
  | 0 => .w
  | 1 => .n
  | 2 => .b
  | 3 => .vw
  | 4 => .vn
  | 5 => .m
  | 6 =>
    match idx with
    | 0 => .camPos
    | 1 => .camRot
    | 2 => .camInv
    | 3 => .pitch
    | 4 => .roll
    | 5 => .yaw
    | 6 => .rctrl
    | 7 => .status
    | 8 => .cls
    | 9 => .dist
    | _ => .cfg
  | _ => .cfg

theorem readSpecial_congr {s t : State} {i : Nat} (hc : t.cfg = s.cfg) (h : SamePart s t (lanePart 6 i))
    (l : Nat) : t.readSpecial i l = s.readSpecial i l := by
  unfold State.readSpecial
  split <;> simp_all [lanePart, SamePart]

theorem readGeneral_congr {s t : State} {f i : Nat} (hc : t.cfg = s.cfg) (h : SamePart s t (lanePart f i))
    (hf : f ≠ 6) (r : RegNo) (l : Nat) : t.readGeneral f r l = s.readGeneral f r l := by
  unfold State.readGeneral
  split <;> simp_all [lanePart, SamePart]

theorem hostReadReg_congr {s t : State} {f i : Nat} (hc : t.cfg = s.cfg) (h : SamePart s t (lanePart f i))
    (l : Nat) : t.hostReadReg f i l = s.hostReadReg f i l := by
  unfold State.hostReadReg
  split_ifs with hf
  · subst hf; exact readSpecial_congr hc h l
  · exact readGeneral_congr hc h hf _ l
  · rfl

/-! ### What the port writes -/

theorem sameOutside_writeSpecial (s : State) (i l v : Nat) :
    SameOutside [portPart 6 i] s (s.writeSpecial i l v) := by
  unfold State.writeSpecial
  split
  · split; exacts [sameOutside_writeCamPosLane s _ _, sameOutside_refl s _]
  · split; exacts [sameOutside_writePitch s _, sameOutside_refl s _]
  · split; exacts [sameOutside_writeRoll s _, sameOutside_refl s _]
  · split; exacts [sameOutside_writeYaw s _, sameOutside_refl s _]
  · split; exacts [sameOutside_writeRctrl s _, sameOutside_refl s _]
  · exact sameOutside_refl s _

theorem sameOutside_writeGeneral (s : State) (f i : Nat) (r : RegNo) (l v : Nat) :
    SameOutside [portPart f i] s (s.writeGeneral f r l v) := by
  unfold State.writeGeneral
  split
  · split; exacts [(wroteW_writeW s r _).2.2, sameOutside_refl s _]
  · split; exacts [(wroteN_writeN s r _).2.2, sameOutside_refl s _]
  · split; exacts [(wroteB_writeB s r _).2.2, sameOutside_refl s _]
  · split; exacts [(wroteVW_writeVWLane s r _ _).2.2, sameOutside_refl s _]
  · split; exacts [(wroteVN_writeVNLane s r _ _).2.2, sameOutside_refl s _]
  · split; exacts [sameOutside_writeMLane s r _ _ _, sameOutside_refl s _]
  · exact sameOutside_refl s _

/-- A host write of a register writes the part that its numbers name, at most (R35, R63). -/
theorem sameOutside_hostWriteReg (s : State) (f i l v : Nat) :
    SameOutside [portPart f i] s (s.hostWriteReg f i l v) := by
  unfold State.hostWriteReg
  split_ifs with hf
  · subst hf; exact sameOutside_writeSpecial s i l v
  · exact sameOutside_writeGeneral s f i _ l v
  · exact sameOutside_refl s _

/-- A write of a register that the host may not write changes nothing (R35, R36). -/
theorem hostWriteReg_of_readOnly {s : State} {f i : Nat} (h : hostWritable f i = false) (l v : Nat) :
    s.hostWriteReg f i l v = s := by
  obtain ⟨rfl, hi⟩ : f = 6 ∧ ¬ (i = 0 ∨ i = 3 ∨ i = 4 ∨ i = 5 ∨ i = 6) := by
    simpa [hostWritable, and_assoc] using h
  change s.writeSpecial i l v = s
  unfold State.writeSpecial
  split <;> simp_all

/-- A write of a lane that a special register does not have changes nothing (R36). -/
theorem writeSpecial_of_missing {s : State} {i l : Nat} (h : specialPort s i l = none) (v : Nat) :
    s.writeSpecial i l v = s := by
  unfold State.writeSpecial
  split <;> simp_all [specialPort, scalarPort_eq_map, vectorPort_eq_map]

theorem writeGeneral_of_missing {s : State} {f l : Nat} {r : RegNo} (h : generalPort s f r l = none)
    (v : Nat) : s.writeGeneral f r l v = s := by
  unfold State.writeGeneral
  split <;> simp_all [generalPort, scalarPort_eq_map, vectorPort_eq_map, matrixPort_eq_map]

theorem hostWriteReg_of_missing {s : State} {f i l : Nat} (h : portLane s f i l = none) (v : Nat) :
    s.hostWriteReg f i l v = s := by
  unfold portLane at h
  unfold State.hostWriteReg
  split_ifs at h ⊢
  · exact writeSpecial_of_missing h v
  · exact writeGeneral_of_missing h v
  · rfl

/-! ### Reading a lane after a write -/

/-- A scalar has one lane: what is read at another does not depend on it. -/
theorem readScalarLane_eq_ite (p p' k : Nat) :
    readScalarLane p k = if k = 0 then p else readScalarLane p' k := by
  unfold readScalarLane
  split_ifs <;> rfl

theorem readVectorLane_set (w : Nat) (v : V3) (j : Lane) (a : Int) (k : Nat) :
    readVectorLane w (v.set j a) k = if k = j.val then pattern w a else readVectorLane w v k := by
  unfold readVectorLane
  cases hk : vectorLane k with
  | none =>
    have hne : k ≠ j.val := fun e => by simp [vectorLane_eq_some.2 e] at hk
    rw [if_neg hne]
  | some k' =>
    obtain rfl := vectorLane_eq_some.1 hk
    simp only [V3.get_set, Fin.ext_iff]
    split_ifs <;> rfl

theorem readMatrixLane_set (w : Nat) (m : Mat) (i j : Lane) (a : Int) (k : Nat) :
    readMatrixLane w (m.set i j a) k
      = if k = 3 * i.val + j.val then pattern w a else readMatrixLane w m k := by
  unfold readMatrixLane
  cases hk : matrixLane k with
  | none =>
    have hne : k ≠ 3 * i.val + j.val := fun e => by simp [matrixLane_eq_some.2 e] at hk
    rw [if_neg hne]
  | some ij =>
    obtain ⟨i', j'⟩ := ij
    obtain rfl := matrixLane_eq_some.1 hk
    have hiff : 3 * i'.val + j'.val = 3 * i.val + j.val ↔ i' = i ∧ j' = j := by
      simp only [Fin.ext_iff]; omega
    simp only [Mat.get_set, hiff]
    split_ifs <;> rfl

/-- A byte register holds the low eight bits of what the host writes; it has lane 0 only (R63). -/
theorem readScalarLane_ofNat (v p k : Nat) :
    readScalarLane (BitVec.ofNat 8 v).toNat k = if k = 0 then v % 2 ^ 8 else readScalarLane p k := by
  rw [readScalarLane_eq_ite _ p, BitVec.toNat_ofNat]

theorem readScalarLane_wrap (w v p k : Nat) :
    readScalarLane (pattern w (wrap w v)) k = if k = 0 then v % 2 ^ w else readScalarLane p k := by
  rw [readScalarLane_eq_ite _ p, pattern_wrap_natCast]

theorem readVectorLane_set_wrap (w v : Nat) (u : V3) (j : Lane) (k : Nat) :
    readVectorLane w (u.set j (wrap w v)) k = if k = j.val then v % 2 ^ w else readVectorLane w u k := by
  rw [readVectorLane_set, pattern_wrap_natCast]

theorem readMatrixLane_set_wrap (w v : Nat) (m : Mat) (i j : Lane) (k : Nat) :
    readMatrixLane w (m.set i j (wrap w v)) k
      = if k = 3 * i.val + j.val then v % 2 ^ w else readMatrixLane w m k := by
  rw [readMatrixLane_set, pattern_wrap_natCast]

/-- RCTRL keeps bit 0 of what the host writes (R30). -/
theorem toNat_ofNat_and_one (v : Nat) : (BitVec.ofNat 8 v &&& 1#8).toNat = v % 2 := by
  rw [BitVec.toNat_and, BitVec.toNat_ofNat]
  change v % 256 &&& 1 = v % 2
  rw [Nat.and_one_is_mod]
  omega

/-- The special registers that the host may write: CAM_POS, PITCH, ROLL, YAW, RCTRL (R35). -/
theorem special_of_hostWritable {i : Nat} (h : hostWritable 6 i = true) :
    i = 0 ∨ i = 3 ∨ i = 4 ∨ i = 5 ∨ i = 6 := by
  simpa [hostWritable, or_assoc] using h

/-- A writable lane of a special register reads as the value written, cut to its width; the other lanes of the
register stay (R35, R63). -/
theorem readSpecial_writeSpecial {s : State} {i l w : Nat} {x : Int} (h : specialPort s i l = some (w, x))
    (hw : hostWritable 6 i = true) (v k : Nat) :
    (s.writeSpecial i l v).readSpecial i k
      = if k = l then (if i = 6 then v % 2 else v % 2 ^ w) else s.readSpecial i k := by
  obtain rfl | rfl | rfl | rfl | rfl := special_of_hostWritable hw
  · obtain ⟨j, rfl, rfl⟩ := lane_of_vectorPort h
    rw [State.writeSpecial, vectorLane_eq_some.2 rfl]
    exact readVectorLane_set_wrap _ _ _ _ _
  all_goals obtain ⟨rfl, rfl⟩ := lane_of_scalarPort h
  · exact readScalarLane_ofNat v _ k
  · exact readScalarLane_ofNat v _ k
  · exact readScalarLane_ofNat v _ k
  · rw [← toNat_ofNat_and_one]
    exact readScalarLane_eq_ite _ _ k

/-- A lane of a general register reads as the value written, cut to its width; the other lanes of the register
stay (R63). -/
theorem readGeneral_writeGeneral {s : State} {f l w : Nat} {r : RegNo} {x : Int}
    (h : generalPort s f r l = some (w, x)) (v k : Nat) :
    (s.writeGeneral f r l v).readGeneral f r k = if k = l then v % 2 ^ w else s.readGeneral f r k := by
  match f, h with
  | 0, h =>
    obtain ⟨rfl, rfl⟩ := lane_of_scalarPort h
    change readScalarLane (pattern _ ((s.writeW r v).readW r)) k = _
    rw [State.readW_writeW, if_pos rfl]
    exact readScalarLane_wrap _ v _ k
  | 1, h =>
    obtain ⟨rfl, rfl⟩ := lane_of_scalarPort h
    change readScalarLane (pattern _ ((s.writeN r v).readN r)) k = _
    rw [State.readN_writeN, if_pos rfl]
    exact readScalarLane_wrap _ v _ k
  | 2, h =>
    obtain ⟨rfl, rfl⟩ := lane_of_scalarPort h
    change readScalarLane ((s.writeB r (BitVec.ofNat 8 v)).readB r).toNat k = _
    rw [State.readB_writeB, if_pos rfl]
    exact readScalarLane_ofNat v _ k
  | 3, h =>
    obtain ⟨j, rfl, rfl⟩ := lane_of_vectorPort h
    rw [State.writeGeneral, vectorLane_eq_some.2 rfl]
    change readVectorLane _ ((s.writeVWLane r j v).readVW r) k = _
    rw [State.readVW_writeVWLane, if_pos rfl]
    exact readVectorLane_set_wrap _ v _ j k
  | 4, h =>
    obtain ⟨j, rfl, rfl⟩ := lane_of_vectorPort h
    rw [State.writeGeneral, vectorLane_eq_some.2 rfl]
    change readVectorLane _ ((s.writeVNLane r j v).readVN r) k = _
    rw [State.readVN_writeVNLane, if_pos rfl]
    exact readVectorLane_set_wrap _ v _ j k
  | 5, h =>
    obtain ⟨i, j, rfl, rfl⟩ := lane_of_matrixPort h
    rw [State.writeGeneral, matrixLane_eq_some.2 rfl]
    change readMatrixLane _ ((s.writeMLane r i j v).readM r) k = _
    rw [State.readM_writeMLane, if_pos rfl]
    exact readMatrixLane_set_wrap _ v _ i j k

/-- A write of a general register leaves the other registers of its file. -/
theorem readGeneral_writeGeneral_of_ne (s : State) (f : Nat) {r q : RegNo} (hq : q ≠ r) (l v k : Nat) :
    (s.writeGeneral f r l v).readGeneral f q k = s.readGeneral f q k := by
  unfold State.writeGeneral
  split
  case h_7 => rfl
  all_goals split
  all_goals simp [State.readGeneral, State.readW_writeW, State.readN_writeN, State.readB_writeB,
    State.readVW_writeVWLane, State.readVN_writeVNLane, State.readM_writeMLane, hq]

/-- A lane that exists is in one of the seven files (R63). -/
theorem file_le_of_portLane {s : State} {f i l : Nat} {p : Nat × Int} (h : portLane s f i l = some p) :
    f ≤ 6 := by
  unfold portLane generalPort at h
  split_ifs at h with hf
  · exact hf.le
  · split at h
    case h_7 => cases h
    all_goals decide

/-! ### A write moves no other lane -/

/-- The file and the index of the registers that a part holds, index 0 for a general file (R35, R63). -/
def laneHome : Part → Nat × Nat
  | .w => (0, 0)
  | .n => (1, 0)
  | .b => (2, 0)
  | .vw => (3, 0)
  | .vn => (4, 0)
  | .m => (5, 0)
  | .camPos => (6, 0)
  | .camRot => (6, 1)
  | .camInv => (6, 2)
  | .pitch => (6, 3)
  | .roll => (6, 4)
  | .yaw => (6, 5)
  | .rctrl => (6, 6)
  | .status => (6, 7)
  | .cls => (6, 8)
  | .dist => (6, 9)
  | _ => (7, 0)

theorem laneHome_lanePart {f i : Nat} (h : lanePart f i ≠ .cfg) :
    laneHome (lanePart f i) = (f, if f = 6 then i else 0) := by
  unfold lanePart at h ⊢
  split <;> try rfl
  · split <;> simp_all [laneHome]
  · simp_all

theorem portPart_ne_cfg (f i : Nat) : portPart f i ≠ .cfg := by
  unfold portPart
  split <;> try split
  all_goals simp

/-- Where the host may write, the part that a write changes is the part that a read reads (R35). -/
theorem portPart_eq_lanePart {f i : Nat} (hf : f ≤ 6) (hw : hostWritable f i = true) :
    portPart f i = lanePart f i := by
  obtain hf | rfl := Nat.lt_or_eq_of_le hf
  · interval_cases f <;> rfl
  · obtain rfl | rfl | rfl | rfl | rfl := special_of_hostWritable hw
    all_goals rfl

/-- The lanes of another file, or of another special register, are in another part. -/
theorem lanePart_ne_portPart {f i f' i' : Nat} (hf : f ≤ 6) (hw : hostWritable f i = true)
    (hne : f' = f → f = 6 ∧ i' ≠ i) : lanePart f' i' ≠ portPart f i := by
  intro e
  have hc := portPart_ne_cfg f i
  have home' := laneHome_lanePart (e ▸ hc)
  rw [e, portPart_eq_lanePart hf hw, laneHome_lanePart (portPart_eq_lanePart hf hw ▸ hc)] at home'
  obtain ⟨rfl, hi⟩ := Prod.mk.inj home'
  obtain ⟨rfl, hi'⟩ := hne rfl
  exact hi' hi.symm

/-- What a host read of a general file answers after a host write of a lane of the same file (R63). -/
theorem hostReadReg_hostWriteReg_general {s : State} {f i l w : Nat} {x : Int} (hf : f ≠ 6)
    (h : portLane s f i l = some (w, x)) (v i' l' : Nat) :
    (s.hostWriteReg f i l v).hostReadReg f i' l'
      = if i' = i ∧ l' = l then v % 2 ^ w else s.hostReadReg f i' l' := by
  rw [portLane, if_neg hf] at h
  split_ifs at h with hi
  simp only [State.hostReadReg, State.hostWriteReg, if_neg hf, if_pos hi]
  by_cases heq : i' = i
  · subst heq
    simpa [hi] using readGeneral_writeGeneral h v l'
  · simp only [heq, false_and, if_false]
    split_ifs with hi'
    · have hne : BitVec.ofNat 4 i' ≠ BitVec.ofNat 4 i := fun e => heq (by bv_omega)
      exact readGeneral_writeGeneral_of_ne s f hne l v l'
    · rfl

/-- What a host read answers after a host write of a writable lane: there, the value cut to the lane's width,
of RCTRL bit 0 only; elsewhere what it answered before (R30, R35, R63). -/
theorem hostReadReg_hostWriteReg {s : State} {f i l w : Nat} {x : Int} (h : portLane s f i l = some (w, x))
    (hw : hostWritable f i = true) (v f' i' l' : Nat) :
    (s.hostWriteReg f i l v).hostReadReg f' i' l'
      = if f' = f ∧ i' = i ∧ l' = l then (if f = 6 ∧ i = 6 then v % 2 else v % 2 ^ w)
        else s.hostReadReg f' i' l' := by
  by_cases hother : f' = f → f = 6 ∧ i' ≠ i
  · have hne : ¬ (f' = f ∧ i' = i ∧ l' = l) := fun ⟨ef, ei, _⟩ => (hother ef).2 ei
    have hpart := lanePart_ne_portPart (file_le_of_portLane h) hw hother
    rw [if_neg hne]
    exact hostReadReg_congr (updates_hostWriteReg s f i l v).cfg_eq
      (sameOutside_hostWriteReg s f i l v _ fun hm => hpart (List.mem_singleton.1 hm)) l'
  · obtain ⟨rfl, hi⟩ := Classical.not_imp.1 hother
    by_cases hf : f' = 6
    · subst hf
      obtain rfl : i' = i := by simpa using hi
      simp only [true_and]
      exact readSpecial_writeSpecial h hw v l'
    · simpa [hf] using hostReadReg_hostWriteReg_general hf h v i' l'

/-! ### STATUS -/

/-- The host cannot write STATUS (R35). -/
theorem status_hostWriteReg (s : State) (f i l v : Nat) : (s.hostWriteReg f i l v).status = s.status := by
  have hpart : .status ∉ [portPart f i] := by
    unfold portPart
    split <;> try split
    all_goals simp
  exact sameOutside_hostWriteReg s f i l v .status hpart

theorem status_hostWriteMem (s : State) (sp : Space) (i : Nat) (v : Byte) :
    (s.hostWriteMem sp i v).status = s.status := by
  unfold State.hostWriteMem
  split
  · split <;> rfl
  · rfl

/-- What a host action can do to STATUS: a reset clears it, an illegal word sets ILL, nothing else touches it
(R31, R104). -/
theorem perform_status {a : HostAction} {s t : State} (h : perform a s = .next t) :
    (a = .reset ∧ t.status = 0#8) ∨
    (∃ w e, a = .issue w ∧ decode w = .error e ∧ t.status = s.status ||| 1#8) ∨
    (a ≠ .reset ∧ (∀ w e, a = .issue w → decode w ≠ .error e) ∧ t.status = s.status) := by
  cases a with
  | reset => exact .inl ⟨rfl, Host.Outcome.next.inj h ▸ rfl⟩
  | readReg | readMem => exact .inr (.inr ⟨nofun, nofun, Host.Outcome.next.inj h ▸ rfl⟩)
  | writeReg file idx lane value =>
    exact .inr (.inr ⟨nofun, nofun, Host.Outcome.next.inj h ▸ status_hostWriteReg s file idx lane value⟩)
  | writeMem space i byte =>
    exact .inr (.inr ⟨nofun, nofun, Host.Outcome.next.inj h ▸ status_hostWriteMem s space i byte⟩)
  | issue w =>
    rw [perform, issueWord] at h
    cases hw : decode w with
    | error e =>
      rw [hw] at h
      exact .inr (.inl ⟨w, e, rfl, hw, Host.Outcome.next.inj h ▸ rfl⟩)
    | ok i =>
      rw [hw] at h
      refine .inr (.inr ⟨nofun, ?_, ?_⟩)
      · rintro _ e ⟨⟩
        rw [hw]; nofun
      · exact sameOutside_of_exec (wellFormed_of_decode hw) h .status (status_notMem_writtenParts i)

/-- The same of a step, by the next action. -/
theorem step_status {s t : State} (h : step s = .next t) :
    ((∃ rest, s.host = .reset :: rest) ∧ t.status = 0#8) ∨
    ((∃ w e rest, s.host = .issue w :: rest ∧ decode w = .error e) ∧ t.status = s.status ||| 1#8) ∨
    ((∀ rest, s.host ≠ .reset :: rest) ∧ (∀ w e rest, s.host = .issue w :: rest → decode w ≠ .error e) ∧
      t.status = s.status) := by
  cases hs : s.host with
  | nil =>
    rw [step_of_host_nil hs] at h
    exact .inr (.inr ⟨nofun, nofun, Host.Outcome.next.inj h ▸ rfl⟩)
  | cons a rest =>
    rw [step_of_host_cons hs] at h
    obtain ⟨rfl, ht⟩ | ⟨w, e, rfl, hw, ht⟩ | ⟨hreset, hlegal, ht⟩ := perform_status h
    · exact .inl ⟨⟨rest, rfl⟩, ht⟩
    · exact .inr (.inl ⟨⟨w, e, rest, rfl, hw⟩, ht⟩)
    · exact .inr (.inr ⟨fun _ he => hreset (List.cons.inj he).1,
        fun w e _ he => hlegal w e (List.cons.inj he).1, ht⟩)

end Sys2Proof.Machine

/-! ### The obligations -/

namespace Sys2Proof.Proofs

open Sys2Proof.Machine Sys2Proof.Safety Sys2Proof.Claims

/-- Settles O9: zeros fit every width, and the identity matrix is its own transpose. -/
theorem resetMeetsInvariant : Obligations.ResetMeetsInvariant := by
  unfold Obligations.ResetMeetsInvariant
  exact ⟨inv_resetWith, inv_resetWith Cfg.ref⟩

/-- Settles O15: a part that a command changed is one of those it writes. -/
theorem writersOfSpecialRegisters : Obligations.WritersOfSpecialRegisters := by
  unfold Obligations.WritersOfSpecialRegisters
  intro i s t hi h
  have hs := sameOutside_of_exec hi h
  have hmem {p : Part} (hp : ¬ SamePart s t p) : p ∈ writtenParts i := SameOutside.mem_of_changed hs hp
  refine ⟨fun hp => camPos_mem_writtenParts (hmem hp),
    fun hp => camRot_mem_writtenParts (hp.imp hmem hmem),
    fun hp => angle_mem_writtenParts (hp.imp hmem (Or.imp hmem hmem)),
    hs .rctrl (rctrl_notMem_writtenParts i), hs .status (status_notMem_writtenParts i),
    fun hp => cls_mem_writtenParts (hmem hp), fun hp => dist_mem_writtenParts (hmem hp), ?_⟩
  rintro ⟨a, ha⟩
  exact fb_mem_writtenParts (hmem fun hfb => ha (hfb a))

/-- Settles O14, by the three things a step can do to STATUS. -/
theorem statusIllIsSticky : Obligations.StatusIllIsSticky := by
  unfold Obligations.StatusIllIsSticky
  intro s t h
  obtain ⟨⟨rest, hs⟩, ht⟩ | ⟨⟨w, e, rest, hs, hw⟩, ht⟩ | ⟨hreset, hlegal, ht⟩ := step_status h
  · refine ⟨fun _ _ => ht, fun w e r hi _ => ?_, fun hn _ => absurd hs (hn rest), fun _ => by rw [ht]; rfl⟩
    rw [hs] at hi; cases hi
  · refine ⟨fun r hr => ?_, fun _ _ _ _ _ => ht, fun _ hn => absurd hw (hn w e rest hs), fun hz => ?_⟩
    · rw [hs] at hr; cases hr
    · rw [ht, BitVec.and_comm, BitVec.and_or_distrib_left, BitVec.and_comm, hz]; rfl
  · exact ⟨fun r hr => absurd hr (hreset r), fun w e r hi hw => absurd hw (hlegal w e r hi), fun _ _ => ht,
      fun hz => ht ▸ hz⟩

/-- Settles O11: the port reads and writes the lanes of `portLane`, one part at a time. -/
theorem hostRegisterPort : Obligations.HostRegisterPort := by
  unfold Obligations.HostRegisterPort
  refine ⟨fun s f i l => ?_, fun s f i l rest hs => ?_, fun s f i l v rest hs => ?_⟩
  · rw [hostReadReg_eq]
    cases portLane s f i l with
    | none => rfl
    | some p => exact ⟨lowBits_lt p.2 p.1, dvd_pattern_sub p.1 p.2⟩
  · exact ⟨_, step_of_host_cons hs, rfl, rfl,
      SameOutside.mono (SameOutside.append (sameOutside_host s rest) (sameOutside_reply _ _)) (by decide)⟩
  · refine ⟨_, step_of_host_cons hs, (updates_hostWriteReg _ f i l v).host_eq, ?_⟩
    have hhost := sameOutside_host s rest
    set u : State := { s with host := rest }
    have hport : portLane u f i l = portLane s f i l := rfl
    split
    next hnone => rw [hostWriteReg_of_missing (hport.trans hnone)]; exact hhost
    next w x hsome =>
      split
      next hw =>
        refine ⟨SameOutside.mono (SameOutside.append hhost (sameOutside_hostWriteReg u f i l v)) ?_, ?_⟩
        · simp
        · exact hostReadReg_hostWriteReg (hport.trans hsome) hw v
      next hw => rw [hostWriteReg_of_readOnly (Bool.eq_false_iff.2 hw)]; exact hhost

end Sys2Proof.Proofs

/-! PROOFS. The family 20_memory.md. The decoder reads back the word of every command: the bits that a row of R99
reserves are 0 in it, said once per mask, and its fields are the operands. With that, what a step does with the
next action; and what the memory port of the host reads and writes. -/

namespace Sys2Proof

/-! ### The fields of a word, side by side -/

/-- The six fields of formats R and L cover the word (R91, R93). -/
theorem append_fieldsR (w : Word) :
    opField w ++ rdField w ++ raField w ++ rbField w ++ rcField w ++ kField w = w := by
  apply BitVec.eq_of_getLsbD_eq
  intro i hi
  simp only [opField, rdField, raField, rbField, rcField, kField, BitVec.getLsbD_append,
    BitVec.getLsbD_extractLsb']
  interval_cases i <;> simp

/-- The four fields of format I cover the word (R92). -/
theorem append_fieldsI (w : Word) : opField w ++ rdField w ++ raField w ++ imm16Field w = w := by
  apply BitVec.eq_of_getLsbD_eq
  intro i hi
  simp only [opField, rdField, raField, imm16Field, BitVec.getLsbD_append, BitVec.getLsbD_extractLsb']
  interval_cases i <;> simp

/-- The four fields of format P, with the reserved bits 23:20, cover the word (R94). -/
theorem append_fieldsP (w : Word) : opField w ++ rdField w ++ raField w ++ yField w ++ xField w = w := by
  apply BitVec.eq_of_getLsbD_eq
  intro i hi
  simp only [opField, rdField, raField, yField, xField, BitVec.getLsbD_append, BitVec.getLsbD_extractLsb']
  interval_cases i <;> simp

/-- A word of format R is masked field by field. -/
theorem fmtR_and (op : Byte) (rd ra rb rc : RegNo) (m : Word) :
    fmtR op rd ra rb rc &&& m
      = fmtR (op &&& opField m) (rd &&& rdField m) (ra &&& raField m) (rb &&& rbField m)
          (rc &&& rcField m) := by
  conv_lhs => rw [← append_fieldsR m]
  unfold fmtR
  repeat rw [BitVec.and_append]
  rw [BitVec.zero_and]

/-- A word of format I is masked field by field. -/
theorem fmtI_and (op : Byte) (rd ra : RegNo) (imm : BitVec 16) (m : Word) :
    fmtI op rd ra imm &&& m
      = fmtI (op &&& opField m) (rd &&& rdField m) (ra &&& raField m) (imm &&& imm16Field m) := by
  conv_lhs => rw [← append_fieldsI m]
  unfold fmtI
  repeat rw [BitVec.and_append]

/-- A word of format P is masked field by field. -/
theorem fmtP_and (op : Byte) (ra : RegNo) (y x : Byte) (m : Word) :
    fmtP op ra y x &&& m
      = fmtP (op &&& opField m) (ra &&& raField m) (y &&& yField m) (x &&& xField m) := by
  conv_lhs => rw [← append_fieldsP m]
  unfold fmtP
  repeat rw [BitVec.and_append]
  rw [BitVec.zero_and]

/-! ### The reserved bits of an encoded command (R99), one lemma per mask, named after the fields in use -/

section Reserved

variable (op : Byte) (rd ra rb rc : RegNo) (imm : Byte)

theorem fmtR_zero : fmtR 0#8 0#4 0#4 0#4 0#4 = 0#32 := rfl

theorem fmtI_zero : fmtI 0#8 0#4 0#4 0#16 = 0#32 := rfl

theorem fmtP_zero : fmtP 0#8 0#4 0#8 0#8 = 0#32 := rfl

theorem reserved_rd_ra_rb_rc : fmtR op rd ra rb rc &&& 0x0000FF#32 = 0#32 := by
  simp [fmtR_and, opField, rdField, raField, rbField, rcField, fmtR_zero]

theorem reserved_rd_ra_rb : fmtR op rd ra rb 0#4 &&& 0x000FFF#32 = 0#32 := by
  simp [fmtR_and, opField, rdField, raField, rbField, fmtR_zero]

theorem reserved_rd_ra : fmtR op rd ra 0#4 0#4 &&& 0x00FFFF#32 = 0#32 := by
  simp [fmtR_and, opField, rdField, raField, fmtR_zero]

theorem reserved_rd : fmtR op rd 0#4 0#4 0#4 &&& 0x0FFFFF#32 = 0#32 := by
  simp [fmtR_and, opField, rdField, fmtR_zero]

theorem reserved_ra : fmtR op 0#4 ra 0#4 0#4 &&& 0xF0FFFF#32 = 0#32 := by
  simp [fmtR_and, opField, raField, fmtR_zero]

theorem reserved_opcode : fmtR op 0#4 0#4 0#4 0#4 &&& 0xFFFFFF#32 = 0#32 := by
  simp [fmtR_and, opField, fmtR_zero]

theorem reserved_lane (lane : BitVec 2) : fmtR op rd ra (0#2 ++ lane) 0#4 &&& 0x00CFFF#32 = 0#32 := by
  have hlane : (0#2 ++ lane) &&& 0xC#4 = 0#4 := by revert lane; decide
  simp [fmtR_and, opField, rdField, raField, rbField, fmtR_zero, hlane]

theorem reserved_par (par : BitVec 1) : fmtR op rd ra (0#3 ++ par) 0#4 &&& 0x00EFFF#32 = 0#32 := by
  have hpar : (0#3 ++ par) &&& 0xE#4 = 0#4 := by revert par; decide
  simp [fmtR_and, opField, rdField, raField, rbField, fmtR_zero, hpar]

theorem reserved_rd_imm16 (imm : BitVec 16) : fmtI op rd 0#4 imm &&& 0x0F0000#32 = 0#32 := by
  simp [fmtI_and, opField, rdField, imm16Field, fmtI_zero]

/-- The high byte of an eight-bit immediate is 0 (R95). -/
theorem imm8_and_high : (0#8 ++ imm) &&& 0xFF00#16 = 0#16 := by
  rw [show 0xFF00#16 = 0xFF#8 ++ 0#8 from rfl, BitVec.and_append, BitVec.zero_and, BitVec.and_zero]
  rfl

theorem reserved_rd_imm8 : fmtI op rd 0#4 (0#8 ++ imm) &&& 0x0FFF00#32 = 0#32 := by
  simp [fmtI_and, opField, rdField, imm16Field, fmtI_zero, imm8_and_high]

theorem reserved_rd_ra_imm8 : fmtI op rd ra (0#8 ++ imm) &&& 0x00FF00#32 = 0#32 := by
  simp [fmtI_and, opField, rdField, raField, imm16Field, fmtI_zero, imm8_and_high]

theorem reserved_mask (mask : BitVec 4) : fmtI op 0#4 0#4 (0#12 ++ mask) &&& 0xFFFFF0#32 = 0#32 := by
  have hmask : (0#12 ++ mask) &&& 0xFFF0#16 = 0#16 := by revert mask; decide
  simp [fmtI_and, opField, imm16Field, fmtI_zero, hmask]

theorem reserved_ra_y_x (y x : Byte) : fmtP op ra y x &&& 0xF00000#32 = 0#32 := by
  simp [fmtP_and, opField, raField, yField, xField, fmtP_zero]

end Reserved

/-! ### Decoding the word of a command -/

/-- The check of the reserved bits lets a word through that has them 0 (R99). -/
theorem legal_eq_ok {w zeros : Word} {i j : Instr} (hw : w &&& zeros = 0#32) (hij : i = j) :
    legal w zeros i = .ok j := by
  rw [legal, if_pos hw, hij]

/-- With the check of the lane field, the lane is to be one (R99, R104 c). -/
theorem legalLane_eq_ok {w zeros : Word} {i j : Instr} (hw : w &&& zeros = 0#32)
    (hlane : laneOk (laneField w) = true) (hij : i = j) : legalLane w zeros i = .ok j := by
  rw [legalLane, if_pos hw, if_pos hlane, hij]

/-- The opcode selects the command's row, the reserved bits of the row are 0, and the fields read back as the
operands (R90 to R95, R98). The commands stand grouped by the mask of their row. -/
theorem decode_encode {i : Instr} (h : i.wellFormed = true) : decode (encode i) = .ok i := by
  cases i with
  | clampw rd ra rb rc =>
    rw [encode, decode, opField_fmtR]
    exact legal_eq_ok (reserved_rd_ra_rb_rc _ rd ra rb rc) (by simp)
  | addw rd ra rb | addn rd ra rb | subw rd ra rb | subn rd ra rb | mulw rd ra rb | muln rd ra rb
  | mulwn rd ra rb | divw rd ra rb | divn rd ra rb | qdiv rd ra rb | addb rd ra rb | vaddw rd ra rb
  | vaddn rd ra rb | vsubw rd ra rb | vsubn rd ra rb | vscln rd ra rb | vsclwn rd ra rb | vcrossw rd ra rb
  | vcrossn rd ra rb | mmul rd ra rb | mvmul rd ra rb | rgnd rd ra rb | rcld rd ra rb =>
    rw [encode, decode, opField_fmtR]
    exact legal_eq_ok (reserved_rd_ra_rb _ rd ra rb) (by simp)
  | negw rd ra | negn rd ra | cvtnw rd ra | cvtwn rd ra | sin rd ra | cos rd ra | negb rd ra | vcvtnw rd ra
  | mrotx rd ra | mroty rd ra | mrotz rd ra | mtrans rd ra | mfwd rd ra | texg rd ra | texc rd ra
  | dqc rd ra | rshade rd ra =>
    rw [encode, decode, opField_fmtR]
    exact legal_eq_ok (reserved_rd_ra _ rd ra) (by simp)
  | mident rd | mcam rd | mcami rd | vcam rd =>
    rw [encode, decode, opField_fmtR]
    exact legal_eq_ok (reserved_rd _ rd) (by simp)
  | rclass ra | rcorn ra =>
    rw [encode, decode, opField_fmtR]
    exact legal_eq_ok (reserved_ra _ ra) (by simp)
  | camrot | rend =>
    rw [encode, decode, opField_fmtR]
    exact legal_eq_ok (reserved_opcode _) rfl
  | vextw rd ra lane | vextn rd ra lane | vinsw rd ra lane | vinsn rd ra lane =>
    rw [encode, decode, opField_fmtR]
    exact legalLane_eq_ok (reserved_lane _ rd ra lane) ((laneField_fmtR _ rd ra _ lane).symm ▸ h) (by simp)
  | dqf rd ra par =>
    rw [encode, decode, opField_fmtR]
    exact legal_eq_ok (reserved_par _ rd ra par) (by simp)
  | liw rd imm | lin rd imm =>
    rw [encode, decode, opField_fmtI]
    exact legal_eq_ok (reserved_rd_imm16 _ rd imm) (by simp)
  | lib rd imm =>
    rw [encode, decode, opField_fmtI]
    exact legal_eq_ok (reserved_rd_imm8 _ rd imm) (by simp)
  | addib rd ra imm =>
    rw [encode, decode, opField_fmtI]
    exact legal_eq_ok (reserved_rd_ra_imm8 _ rd ra imm) (by simp)
  | camtick mask =>
    rw [encode, decode, opField_fmtI]
    exact legal_eq_ok (reserved_mask _ mask) (by simp)
  | vlerpn rd ra rb k sh =>
    rw [encode, decode, opField_fmtL]
    exact legal_eq_ok BitVec.and_zero (by simp)
  | fbpix ra x y | fbblk ra x y | fbst ra x y =>
    rw [encode, decode, opField_fmtP]
    exact legal_eq_ok (reserved_ra_y_x _ ra y x) (by simp)

end Sys2Proof

namespace Sys2Proof.Machine

open Sys2Proof.Safety Sys2Proof.Claims

/-! ### The issue of a word -/

/-- An issued word that decodes runs its command (R65). -/
theorem issueWord_of_ok {w : Word} {i : Instr} (h : decode w = .ok i) (s : State) :
    issueWord w s = exec i s := by
  rw [issueWord, h]

/-- One that does not decode has the effect of an illegal word (R104). -/
theorem issueWord_of_error {w : Word} {e : DecodeError} (h : decode w = .error e) (s : State) :
    issueWord w s = .next s.takeIllegal := by
  rw [issueWord, h]

/-- A word of 32 bits is placed as it is. -/
theorem withFetchWord_toNat (s : State) (w : Word) :
    s.withFetchWord 32 w.toNat = { s with host := .issue w :: s.host } := by
  rw [State.withFetchWord, Nat.mod_eq_of_lt w.isLt, BitVec.ofNat_toNat, BitVec.setWidth_eq]

/-- The word placed by withFetchWord is the one the next step issues, in the state it was placed in (R65). -/
theorem step_withFetchWord (s : State) (w : Word) : step (s.withFetchWord 32 w.toNat) = issueWord w s := by
  rw [withFetchWord_toNat, step_of_host_cons rfl]
  rfl

/-- A command with lane field 3, which names no lane, has the effect of an illegal word (R104 c). -/
theorem completes_of_laneThree {i : Instr} {s : State} {effect : Lane → State}
    (h : exec i s = withLane 3#2 s effect) : Completes i s (OnlyIllSet s) :=
  ⟨s.takeIllegal, h, onlyIllSet_takeIllegal s⟩

/-! ### What the memory port answers -/

/-- Entry `i` of a configuration space, 0 past its end. -/
theorem getD_eq_dite {α : Type} (l : List α) (i : Nat) (d : α) :
    l.getD i d = if h : i < l.length then l[i] else d := by
  rw [List.getD_eq_getElem?_getD, List.getD_getElem?]

section Read

variable (s : State) (i : Nat)

theorem hostReadMem_fb :
    s.hostReadMem .fb i = if i < s.cfg.fbSize then ((s.readFB i).toNat : Int) else 0 := rfl

theorem hostReadMem_gtex :
    s.hostReadMem .gtex i = if h : i < s.cfg.gtex.length then (s.cfg.gtex[i].toNat : Int) else 0 := by
  rw [State.hostReadMem, gtexAt, getD_eq_dite]
  split_ifs <;> rfl

theorem hostReadMem_ctex :
    s.hostReadMem .ctex i = if h : i < s.cfg.ctex.length then (s.cfg.ctex[i].toNat : Int) else 0 := by
  rw [State.hostReadMem, ctexAt, getD_eq_dite]
  split_ifs <;> rfl

theorem hostReadMem_sintab :
    s.hostReadMem .sintab i = if h : i < s.cfg.sintab.length then s.cfg.sintab[i] else 0 := by
  rw [State.hostReadMem, getD_eq_dite]

theorem hostReadMem_recip :
    s.hostReadMem .recip i = if h : i < s.cfg.recip.length then (s.cfg.recip[i] : Int) else 0 := by
  rw [State.hostReadMem, recipAt, getD_eq_dite]
  split_ifs <;> rfl

end Read

/-! ### What the memory port writes -/

/-- A byte of FB reads as it was last written; every other byte stays (R69). -/
theorem State.readFB_writeFB (s : State) (i a : Nat) (v : Byte) :
    (s.writeFB i v).readFB a = if a = i then v else s.readFB a := Memory.read_write s.fb i a v

/-- The write of a byte of FB. -/
theorem sameOutside_writeFB (s : State) (i : Nat) (v : Byte) : SameOutside [.fb] s (s.writeFB i v) :=
  sameOutside_fb s _

/-- A host write inside FB stores the byte (R64). -/
theorem hostWriteMem_of_inside {s : State} {sp : Space} {i : Nat} (h : sp = .fb ∧ i < s.cfg.fbSize)
    (v : Byte) : s.hostWriteMem sp i v = s.writeFB i v := by
  obtain ⟨rfl, hi⟩ := h
  exact if_pos hi

/-- A host write of another space, or outside FB, is ignored (R64). -/
theorem hostWriteMem_of_outside {s : State} {sp : Space} {i : Nat} (h : ¬ (sp = .fb ∧ i < s.cfg.fbSize))
    (v : Byte) : s.hostWriteMem sp i v = s := by
  cases sp with
  | fb => exact if_neg fun hi => h ⟨rfl, hi⟩
  | gtex | ctex | sintab | recip => rfl

end Sys2Proof.Machine

/-! ### The obligations -/

namespace Sys2Proof.Proofs

open Sys2Proof.Machine Sys2Proof.Safety Sys2Proof.Claims

/-- Settles O6: the step performs the head of the list, and a command's word decodes to the command. -/
theorem stepPerformsTheNextAction : Obligations.StepPerformsTheNextAction := by
  unfold Obligations.StepPerformsTheNextAction
  refine ⟨fun s w i rest hs hw => ?_, fun s w e rest hs hw => ?_, fun s hs => step_of_host_nil hs,
    fun s i hi => ?_, fun rd ra s => ?_⟩
  · rw [step_of_host_cons hs]
    exact issueWord_of_ok hw _
  · rw [step_of_host_cons hs]
    exact ⟨_, issueWord_of_error hw _, onlyIllSet_takeIllegal _⟩
  · rw [step_withFetchWord]
    exact issueWord_of_ok (decode_encode hi) s
  · exact ⟨completes_of_laneThree (effect := fun l => s.writeW rd ((s.readVW ra).get l)) rfl,
      completes_of_laneThree (effect := fun l => s.writeN rd ((s.readVN ra).get l)) rfl,
      completes_of_laneThree (effect := fun l => s.writeVWLane rd l (s.readW ra)) rfl,
      completes_of_laneThree (effect := fun l => s.writeVNLane rd l (s.readN ra)) rfl⟩

/-- Settles O12: a read answers the entry of its space, a write is one byte of FB or nothing. -/
theorem hostMemoryPort : Obligations.HostMemoryPort := by
  unfold Obligations.HostMemoryPort
  refine ⟨fun s sp i rest hs => ?_, fun s sp i v rest hs => ?_⟩
  · refine ⟨_, step_of_host_cons hs, rfl,
      SameOutside.mono (SameOutside.append (sameOutside_host s rest) (sameOutside_reply _ _)) (by decide), ?_⟩
    set u : State := { s with host := rest }
    cases sp with
    | fb => exact congrArg some (hostReadMem_fb u i)
    | gtex => exact congrArg some (hostReadMem_gtex u i)
    | ctex => exact congrArg some (hostReadMem_ctex u i)
    | sintab => exact congrArg some (hostReadMem_sintab u i)
    | recip => exact congrArg some (hostReadMem_recip u i)
  · refine ⟨_, step_of_host_cons hs, (updates_hostWriteMem _ sp i v).host_eq, ?_⟩
    have hhost := sameOutside_host s rest
    set u : State := { s with host := rest }
    split
    next hin =>
      rw [hostWriteMem_of_inside (s := u) hin]
      refine ⟨?_, fun a ha => ?_,
        SameOutside.mono (SameOutside.append hhost (sameOutside_writeFB u i v)) (by decide)⟩
      · rw [State.readFB_writeFB, if_pos rfl]
      · rw [State.readFB_writeFB, if_neg ha]; rfl
    next hout => rw [hostWriteMem_of_outside (s := u) hout]; exact hhost

end Sys2Proof.Proofs

/-! PROOFS. The family 30_encoding.md. Encoding the command that a word decodes to gives the word back: its fields
are the operands, and the bits that the row of R99 reserves are 0. The decoder follows the opcode table: what it
checks of a word, its opcode, reserved bits and lane, is what selecting a row asks for. -/

namespace Sys2Proof

/-! ### What a word that decodes looks like -/

/-- A check that lets a command through found the reserved bits 0 (R99). -/
theorem reserved_of_legal {w zeros : Word} {i j : Instr} (h : legal w zeros i = .ok j) :
    w &&& zeros = 0#32 ∧ i = j := by
  refine ⟨by_contra fun hz => ?_, Machine.eq_of_legal h⟩
  rw [legal, if_neg hz] at h
  cases h

/-- With the check of the lane field, the same (R99). -/
theorem reserved_of_legalLane {w zeros : Word} {i j : Instr} (h : legalLane w zeros i = .ok j) :
    w &&& zeros = 0#32 ∧ i = j := by
  refine ⟨by_contra fun hz => ?_, (Machine.eq_of_legalLane h).1⟩
  rw [legalLane, if_neg hz] at h
  cases h

/-- The opcode of a word that decodes is the one of its command (R90, R98). -/
theorem opField_of_decode {w : Word} {i : Instr} (h : decode w = .ok i) : opField w = Laws.opcodeOf i := by
  unfold decode at h
  split at h
  case h_34 | h_35 | h_36 | h_37 =>
    obtain ⟨-, rfl⟩ := reserved_of_legalLane h
    assumption
  case h_64 => cases h
  all_goals
    obtain ⟨-, rfl⟩ := reserved_of_legal h
    assumption

/-! ### A word put together from its fields -/

/-- A field that lies inside the reserved bits is 0 (R99). -/
theorem field_eq_zero {w zeros : Word} {lo len : Nat} (h : w &&& zeros = 0#32)
    (hz : zeros.extractLsb' lo len = BitVec.allOnes len) : w.extractLsb' lo len = 0#len := by
  have hf := congrArg (BitVec.extractLsb' lo len) h
  rwa [BitVec.extractLsb'_and, hz, BitVec.and_allOnes, BitVec.extractLsb'_zero] at hf

/-- A field whose upper part is reserved is its lower part under zeros (R95, R99). -/
theorem field_eq_zero_append {w zeros : Word} (lo m n : Nat) (h : w &&& zeros = 0#32)
    (hz : zeros.extractLsb' (lo + n) m = BitVec.allOnes m) :
    w.extractLsb' lo (m + n) = 0#m ++ w.extractLsb' lo n := by
  rw [← field_eq_zero h hz, BitVec.extractLsb'_append_extractLsb'_eq_extractLsb' rfl]

section Formats

variable {w : Word} {op : Byte} {rd ra rb rc : RegNo}

/-- A word of format R has the word's fields, and 0 in bits 7:0 (R91). -/
theorem fmtR_eq (hop : opField w = op) (hrd : rdField w = rd) (hra : raField w = ra) (hrb : rbField w = rb)
    (hrc : rcField w = rc) (hlow : kField w = 0#8) : fmtR op rd ra rb rc = w := by
  rw [fmtR, ← hop, ← hrd, ← hra, ← hrb, ← hrc, ← hlow, append_fieldsR]

/-- A word of format I has the word's fields (R92). -/
theorem fmtI_eq {imm : BitVec 16} (hop : opField w = op) (hrd : rdField w = rd) (hra : raField w = ra)
    (himm : imm16Field w = imm) : fmtI op rd ra imm = w := by
  rw [fmtI, ← hop, ← hrd, ← hra, ← himm, append_fieldsI]

/-- A word of format L has the word's fields (R93). -/
theorem fmtL_eq (hop : opField w = op) :
    fmtL op (rdField w) (raField w) (rbField w) (shField w) (kField w) = w := by
  rw [fmtL, ← hop]
  exact append_fieldsR w

/-- A word of format P has the word's fields, and 0 in bits 23:20 (R94). -/
theorem fmtP_eq (hop : opField w = op) (hzero : rdField w = 0#4) :
    fmtP op (raField w) (yField w) (xField w) = w := by
  rw [fmtP, ← hop, ← hzero, append_fieldsP]

end Formats

/-! ### Encoding the command of a word -/

/-- The opcode of the word is the command's, its operands are the word's fields, and every other bit is reserved
and 0 (R98, R105). The commands stand grouped by the mask of their row. -/
theorem encode_decode {w : Word} {i : Instr} (h : decode w = .ok i) : encode i = w := by
  have hop := opField_of_decode h
  rw [decode, hop] at h
  cases i with
  | clampw rd ra rb rc =>
    obtain ⟨hz, ⟨⟩⟩ := reserved_of_legal h
    exact fmtR_eq hop rfl rfl rfl rfl (field_eq_zero hz rfl)
  | addw rd ra rb | addn rd ra rb | subw rd ra rb | subn rd ra rb | mulw rd ra rb | muln rd ra rb
  | mulwn rd ra rb | divw rd ra rb | divn rd ra rb | qdiv rd ra rb | addb rd ra rb | vaddw rd ra rb
  | vaddn rd ra rb | vsubw rd ra rb | vsubn rd ra rb | vscln rd ra rb | vsclwn rd ra rb | vcrossw rd ra rb
  | vcrossn rd ra rb | mmul rd ra rb | mvmul rd ra rb | rgnd rd ra rb | rcld rd ra rb =>
    obtain ⟨hz, ⟨⟩⟩ := reserved_of_legal h
    exact fmtR_eq hop rfl rfl rfl (field_eq_zero hz rfl) (field_eq_zero hz rfl)
  | negw rd ra | negn rd ra | cvtnw rd ra | cvtwn rd ra | sin rd ra | cos rd ra | negb rd ra | vcvtnw rd ra
  | mrotx rd ra | mroty rd ra | mrotz rd ra | mtrans rd ra | mfwd rd ra | texg rd ra | texc rd ra
  | dqc rd ra | rshade rd ra =>
    obtain ⟨hz, ⟨⟩⟩ := reserved_of_legal h
    exact fmtR_eq hop rfl rfl (field_eq_zero hz rfl) (field_eq_zero hz rfl) (field_eq_zero hz rfl)
  | mident rd | mcam rd | mcami rd | vcam rd =>
    obtain ⟨hz, ⟨⟩⟩ := reserved_of_legal h
    exact fmtR_eq hop rfl (field_eq_zero hz rfl) (field_eq_zero hz rfl) (field_eq_zero hz rfl)
      (field_eq_zero hz rfl)
  | rclass ra | rcorn ra =>
    obtain ⟨hz, ⟨⟩⟩ := reserved_of_legal h
    exact fmtR_eq hop (field_eq_zero hz rfl) rfl (field_eq_zero hz rfl) (field_eq_zero hz rfl)
      (field_eq_zero hz rfl)
  | camrot | rend =>
    obtain ⟨hz, -⟩ := reserved_of_legal h
    exact fmtR_eq hop (field_eq_zero hz rfl) (field_eq_zero hz rfl) (field_eq_zero hz rfl)
      (field_eq_zero hz rfl) (field_eq_zero hz rfl)
  | vextw rd ra lane | vextn rd ra lane | vinsw rd ra lane | vinsn rd ra lane =>
    obtain ⟨hz, ⟨⟩⟩ := reserved_of_legalLane h
    exact fmtR_eq hop rfl rfl (field_eq_zero_append 12 2 2 hz rfl) (field_eq_zero hz rfl)
      (field_eq_zero hz rfl)
  | dqf rd ra par =>
    obtain ⟨hz, ⟨⟩⟩ := reserved_of_legal h
    exact fmtR_eq hop rfl rfl (field_eq_zero_append 12 3 1 hz rfl) (field_eq_zero hz rfl)
      (field_eq_zero hz rfl)
  | liw rd imm | lin rd imm =>
    obtain ⟨hz, ⟨⟩⟩ := reserved_of_legal h
    exact fmtI_eq hop rfl (field_eq_zero hz rfl) rfl
  | lib rd imm =>
    obtain ⟨hz, ⟨⟩⟩ := reserved_of_legal h
    exact fmtI_eq hop rfl (field_eq_zero hz rfl) (field_eq_zero_append 0 8 8 hz rfl)
  | addib rd ra imm =>
    obtain ⟨hz, ⟨⟩⟩ := reserved_of_legal h
    exact fmtI_eq hop rfl rfl (field_eq_zero_append 0 8 8 hz rfl)
  | camtick mask =>
    obtain ⟨hz, ⟨⟩⟩ := reserved_of_legal h
    exact fmtI_eq hop (field_eq_zero hz rfl) (field_eq_zero hz rfl) (field_eq_zero_append 0 12 4 hz rfl)
  | vlerpn rd ra rb k sh =>
    obtain ⟨-, ⟨⟩⟩ := reserved_of_legal h
    exact fmtL_eq hop
  | fbpix ra x y | fbblk ra x y | fbst ra x y =>
    obtain ⟨hz, ⟨⟩⟩ := reserved_of_legal h
    exact fmtP_eq hop (field_eq_zero hz rfl)

/-- The word of a well-formed command decodes to it (R98). -/
theorem decode_of_encode_eq {w : Word} {i : Instr} (hi : i.wellFormed = true) (h : encode i = w) :
    decode w = .ok i :=
  h ▸ decode_encode hi

end Sys2Proof

namespace Sys2Proof.Claims

/-! ### A row of the opcode table, as the decoder reads it -/

/-- The opcode of a row: bits 31:24 of its match (R99). -/
def OpcodeRow.opcode (r : OpcodeRow) : Byte := opField r.bits

/-- The bits that a row reserves: its mask without the opcode bits (R99). -/
def OpcodeRow.reserved (r : OpcodeRow) : Word := r.mask &&& 0x00FFFFFF#32

/-- The decoder's check of a word against a row: the reserved bits, and in a lane command the lane (R99). -/
def OpcodeRow.check (r : OpcodeRow) (w : Word) (i : Instr) : Except DecodeError Instr :=
  if r.lane then legalLane w r.reserved i else legal w r.reserved i

/-- A word passes the check exactly when the reserved bits are 0 and the lane is one (R99, R104 b, c). -/
theorem OpcodeRow.check_eq_ok_iff {r : OpcodeRow} {w : Word} {i j : Instr} :
    r.check w i = .ok j ↔
      w &&& r.reserved = 0#32 ∧ (r.lane = true → laneOk (laneField w) = true) ∧ i = j := by
  unfold OpcodeRow.check
  split
  next hlane =>
    refine ⟨fun h => ?_, fun ⟨hz, hl, hi⟩ => legalLane_eq_ok hz (hl hlane) hi⟩
    obtain ⟨hz, hi⟩ := reserved_of_legalLane h
    obtain ⟨-, hl⟩ := Machine.eq_of_legalLane h
    exact ⟨hz, fun _ => hl, hi⟩
  next hlane =>
    refine ⟨fun h => ?_, fun ⟨hz, _, hi⟩ => legal_eq_ok hz hi⟩
    obtain ⟨hz, hi⟩ := reserved_of_legal h
    exact ⟨hz, fun hl => absurd hl hlane, hi⟩

/-- Every row of the table fixes the eight opcode bits, and asks the other bits of its mask to be 0 (R99). -/
theorem mask_and_bits_of_mem : ∀ r ∈ opcodeTable,
    opField r.mask = 0xFF#8 ∧ r.bits.extractLsb' 0 24 = 0#24 := by decide

/-- No two rows of the table have the same opcode (R98). -/
theorem opcodes_nodup : (opcodeTable.map OpcodeRow.opcode).Nodup := by decide

/-- 0x00 and 0xFF are the opcodes of no row (R98, R104). -/
theorem opcode_ne_of_mem : ∀ r ∈ opcodeTable, r.opcode ≠ 0x00#8 ∧ r.opcode ≠ 0xFF#8 := by decide

/-- A word is its opcode and its low 24 bits (R90). -/
theorem word_eq_iff {w v : Word} :
    w = v ↔ opField w = opField v ∧ w.extractLsb' 0 24 = v.extractLsb' 0 24 := by
  refine ⟨fun h => h ▸ ⟨rfl, rfl⟩, fun ⟨hop, hlow⟩ => ?_⟩
  have split_word (u : Word) : opField u ++ u.extractLsb' 0 24 = u :=
    (BitVec.extractLsb'_append_extractLsb'_eq_extractLsb' rfl).trans (extract_all u)
  rw [← split_word w, hop, hlow, split_word v]

/-- A word selects a row of the table exactly when it has the row's opcode, 0 in the bits that the row reserves,
and a lane where the row asks for one (R99). -/
theorem selects_iff {r : OpcodeRow} (hr : r ∈ opcodeTable) {w : Word} :
    r.Selects w ↔
      opField w = r.opcode ∧ w &&& r.reserved = 0#32 ∧ (r.lane = true → laneOk (laneField w) = true) := by
  obtain ⟨hmask, hbits⟩ := mask_and_bits_of_mem r hr
  have hop : opField (w &&& r.mask) = opField w := by
    rw [opField, BitVec.extractLsb'_and, ← opField, ← opField, hmask]
    exact BitVec.and_allOnes
  have hres : w &&& r.reserved = 0#32 ↔ (w &&& r.mask).extractLsb' 0 24 = 0#24 := by
    have hhigh : opField (w &&& r.mask &&& 0x00FFFFFF#32) = 0#8 := by
      rw [opField, BitVec.extractLsb'_and]
      exact BitVec.and_zero
    have hlow : (w &&& r.mask &&& 0x00FFFFFF#32).extractLsb' 0 24 = (w &&& r.mask).extractLsb' 0 24 := by
      rw [BitVec.extractLsb'_and]
      exact BitVec.and_allOnes
    rw [OpcodeRow.reserved, ← BitVec.and_assoc, word_eq_iff, hhigh, hlow]
    exact and_iff_right rfl
  have hlane : (w.extractLsb' 12 2 ≠ 3#2) ↔ laneOk (laneField w) = true := bne_iff_ne.symm
  rw [OpcodeRow.Selects, word_eq_iff, hop, hbits, hlane, hres, and_assoc]
  rfl

/-- A word selects one row at most: the rows have different opcodes (R105). -/
theorem eq_of_selects {w : Word} {r r' : OpcodeRow} (hr : r ∈ opcodeTable) (hr' : r' ∈ opcodeTable)
    (h : r.Selects w) (h' : r'.Selects w) : r = r' :=
  List.inj_on_of_nodup_map opcodes_nodup hr hr'
    (((selects_iff hr).1 h).1.symm.trans ((selects_iff hr').1 h').1)

/-! ### The decoder follows the table -/

/-- A word with the row's opcode is checked against the row, and decodes to its command (R98, R99). -/
def OpcodeRow.Decodes (r : OpcodeRow) : Prop :=
  ∀ w : Word, opField w = r.opcode → ∃ i, decode w = r.check w i ∧ mnemonic i = r.name

/-- The decoder has every row of the table (R98). -/
theorem decodes_of_mem : ∀ r ∈ opcodeTable, r.Decodes := by
  simp only [opcodeTable, opcodesScalar, opcodesVector, opcodesMatrix, opcodesScreen, opcodesFrame,
    List.forall_mem_append, List.forall_mem_cons, List.not_mem_nil, false_imp_iff, implies_true, and_true]
  and_intros
  all_goals
    intro w hop
    rw [decode, hop]
    exact ⟨_, rfl, rfl⟩

/-- The opcode of every command is in the table (R98). -/
theorem opcodeOf_mem (i : Instr) : ∃ r ∈ opcodeTable, r.opcode = Laws.opcodeOf i := by
  have hmem : Laws.opcodeOf i ∈ opcodeTable.map OpcodeRow.opcode := by
    cases i <;> exact List.mem_of_elem_eq_true rfl
  exact List.mem_map.1 hmem

/-- A word that decodes to a command selects the command's row (R105). -/
theorem selects_of_decode {w : Word} {i : Instr} (h : decode w = .ok i) :
    ∃ r ∈ opcodeTable, r.Selects w ∧ r.name = mnemonic i := by
  obtain ⟨r, hr, hri⟩ := opcodeOf_mem i
  have hop : opField w = r.opcode := (opField_of_decode h).trans hri.symm
  obtain ⟨j, hw, hj⟩ := decodes_of_mem r hr w hop
  obtain ⟨hz, hlane, rfl⟩ := OpcodeRow.check_eq_ok_iff.1 (hw.symm.trans h)
  exact ⟨r, hr, (selects_iff hr).2 ⟨hop, hz, hlane⟩, hj.symm⟩

/-- A word that selects a row decodes (R105). -/
theorem decode_of_selects {w : Word} {r : OpcodeRow} (hr : r ∈ opcodeTable) (h : r.Selects w) :
    ∃ i, decode w = .ok i := by
  obtain ⟨hop, hz, hlane⟩ := (selects_iff hr).1 h
  obtain ⟨i, hw, -⟩ := decodes_of_mem r hr w hop
  exact ⟨i, hw.trans (OpcodeRow.check_eq_ok_iff.2 ⟨hz, hlane, rfl⟩)⟩

/-- A word that selects no row is refused (R104). -/
theorem decode_error_of_not_selects {w : Word} (h : ∀ r ∈ opcodeTable, ¬ r.Selects w) :
    ∃ e, decode w = .error e := by
  cases hw : decode w with
  | error e => exact ⟨e, rfl⟩
  | ok i =>
    obtain ⟨r, hr, hsel, -⟩ := selects_of_decode hw
    exact absurd hsel (h r hr)

end Sys2Proof.Claims

namespace Sys2Proof.Machine

open Sys2Proof.Claims Sys2Proof.Safety

/-! ### STATUS.ILL -/

/-- Setting bit 0 of STATUS sets ILL, whatever it was (R31). -/
theorem ill_of_status_or {s t : State} (h : t.status = s.status ||| 1#8) : t.ill = true := by
  rw [State.ill, h, BitVec.getLsbD_or]
  exact Bool.or_true _

/-- A step that performs no reset keeps a set ILL (R31, R104). -/
theorem step_keeps_ill {s t : State} (hs : s.ill = true) (h : step s = .next t) :
    t.ill = true ∨ ∃ rest, s.host = .reset :: rest := by
  obtain ⟨hreset, -⟩ | ⟨-, ht⟩ | ⟨-, -, ht⟩ := step_status h
  · exact .inr hreset
  · exact .inl (ill_of_status_or ht)
  · rw [State.ill, ht]
    exact .inl hs

end Sys2Proof.Machine

/-! ### The obligations -/

namespace Sys2Proof.Proofs

open Sys2Proof.Machine Sys2Proof.Safety Sys2Proof.Claims

/-- Settles O1: the opcode selects the command's row, and the fields are the operands. -/
theorem decodeOfEncode : Obligations.DecodeOfEncode := by
  unfold Obligations.DecodeOfEncode
  exact fun _ => decode_encode

/-- Settles O2: the fields of the word are the operands, and all other bits are reserved. -/
theorem encodeOfDecode : Obligations.EncodeOfDecode := by
  unfold Obligations.EncodeOfDecode
  exact fun _ _ h => ⟨wellFormed_of_decode h, encode_decode h⟩

/-- Settles O3: the decoder checks what selecting a row asks for, and the rows have different opcodes. -/
theorem legalWordsFollowTheTable : Obligations.LegalWordsFollowTheTable := by
  unfold Obligations.LegalWordsFollowTheTable
  refine ⟨fun w => ⟨?_, ?_⟩, fun w r hr r' hr' => eq_of_selects hr hr', fun w i => selects_of_decode⟩
  · rintro ⟨i, hi⟩
    obtain ⟨r, hr, hsel, -⟩ := selects_of_decode hi
    exact ⟨r, hr, hsel⟩
  · rintro ⟨r, hr, hsel⟩
    exact decode_of_selects hr hsel

/-- Settles O5: a word that selects no row does not decode, and the opcodes 0x00 and 0xFF have no row. -/
theorem illegalWordOnlySetsIll : Obligations.IllegalWordOnlySetsIll := by
  unfold Obligations.IllegalWordOnlySetsIll
  refine ⟨fun w s rest hw hs => ?_, fun s t => step_keeps_ill, fun r hr => ?_⟩
  · obtain ⟨e, he⟩ := decode_error_of_not_selects hw
    refine ⟨_, (step_of_host_cons hs).trans (issueWord_of_error he _), rfl, rfl, ?_⟩
    obtain ⟨-, hill⟩ := onlyIllSet_takeIllegal { s with host := rest }
    exact SameOutside.mono (SameOutside.append (sameOutside_host s rest) hill) (by decide)
  · obtain ⟨hzeros, hones⟩ := opcode_ne_of_mem r hr
    exact ⟨fun h => hzeros ((selects_iff hr).1 h).1.symm, fun h => hones ((selects_iff hr).1 h).1.symm⟩

/-- Settles O4: each of the six is the encoding of its command. -/
theorem workedEncodings : Obligations.WorkedEncodings := by
  unfold Obligations.WorkedEncodings
  exact ⟨decode_of_encode_eq rfl (by decide), decode_of_encode_eq rfl (by decide),
    decode_of_encode_eq rfl (by decide), decode_of_encode_eq rfl (by decide),
    decode_of_encode_eq rfl (by decide), decode_of_encode_eq rfl (by decide)⟩

end Sys2Proof.Proofs

/-! PROOFS. The family 41_scalar_alu.md. Each pure function of the ALU is said once by the formula of its rule, each
command is one register write of such a value, and the laws and the error bound follow from the formulas. -/

namespace Sys2Proof.Safety

open Sys2Proof.Machine

/-! ### A value written to a register -/

/-- The wrap of a wrap of the same width is a wrap of the first argument (R9). -/
theorem IsWrap.trans {w : Nat} {x y v : Int} (hy : IsWrap w x y) (hv : IsWrap w y v) : IsWrap w x v := by
  obtain ⟨-, hxy⟩ := hy
  obtain ⟨hfits, hyv⟩ := hv
  refine ⟨hfits, ?_⟩
  rw [← sub_add_sub_cancel v y x]
  exact dvd_add hyv hxy

theorem IsWrapW.trans {c : Cfg} {x y v : Int} (hy : IsWrapW c x y) (hv : IsWrapW c y v) : IsWrapW c x v :=
  IsWrap.trans hy hv

theorem IsWrapN.trans {c : Cfg} {x y v : Int} (hy : IsWrapN c x y) (hv : IsWrapN c y v) : IsWrapN c x v :=
  IsWrap.trans hy hv

/-- A value of the width is written as it is. -/
theorem IsWrapW.eq_of_fits {c : Cfg} {z v : Int} (h : IsWrapW c z v) (hz : Fits c.ww z) : v = z :=
  (eq_wrapW_of_isWrapW h).trans (wrapW_of_fits c hz)

theorem IsWrapN.eq_of_fits {c : Cfg} {z v : Int} (h : IsWrapN c z v) (hz : Fits c.nw z) : v = z :=
  (eq_wrapN_of_isWrapN h).trans (wrapN_of_fits c hz)

variable {rd : RegNo} {s t : State}

/-- The draw of an unspecified value is the model's own count and no state of FXR (assumption log 4). -/
theorem WroteW.of_drawn {p : Int → Prop} (h : WroteW rd [] p s.drawn t) : WroteW rd [.draws] p s t := by
  obtain ⟨hp, hother, hframe⟩ := h
  exact ⟨hp, hother, SameOutside.mono (SameOutside.append (sameOutside_drawn s) hframe) (by decide)⟩

theorem WroteN.of_drawn {p : Int → Prop} (h : WroteN rd [] p s.drawn t) : WroteN rd [.draws] p s t := by
  obtain ⟨hp, hother, hframe⟩ := h
  exact ⟨hp, hother, SameOutside.mono (SameOutside.append (sameOutside_drawn s) hframe) (by decide)⟩

end Sys2Proof.Safety

namespace Sys2Proof.Machine

open Sys2Proof.Safety Sys2Proof.Claims

section Completion

variable {i : Instr} {s : State} {rd : RegNo} {z : Int}

/-- A command that writes `z` to W[rd] completes with what is known of every wrap of `z`. -/
theorem completes_writeW {p : Int → Prop} (he : exec i s = .next (s.writeW rd z))
    (hp : ∀ v, IsWrapW s.cfg z v → p v) : Completes i s (WroteW rd [] p s) := by
  obtain ⟨hv, hother, hframe⟩ := wroteW_writeW s rd z
  exact ⟨_, he, hp _ hv, hother, hframe⟩

theorem completes_writeN {p : Int → Prop} (he : exec i s = .next (s.writeN rd z))
    (hp : ∀ v, IsWrapN s.cfg z v → p v) : Completes i s (WroteN rd [] p s) := by
  obtain ⟨hv, hother, hframe⟩ := wroteN_writeN s rd z
  exact ⟨_, he, hp _ hv, hother, hframe⟩

/-- A byte is written as it is. -/
theorem completes_writeB {p : Byte → Prop} {b : Byte} (he : exec i s = .next (s.writeB rd b)) (hp : p b) :
    Completes i s (WroteB rd [] p s) := by
  obtain ⟨hv, hother, hframe⟩ := wroteB_writeB s rd b
  exact ⟨_, he, hv.symm ▸ hp, hother, hframe⟩

/-- An unspecified value reaches W[rd] cut to its width (R132, assumption log 4). -/
theorem completes_unspecW (he : exec i s = .next (s.drawn.writeW rd z)) :
    Completes i s (WroteW rd [.draws] (Fits s.cfg.ww) s) := by
  obtain ⟨⟨hfits, -⟩, hother, hframe⟩ := wroteW_writeW s.drawn rd z
  exact ⟨_, he, WroteW.of_drawn ⟨hfits, hother, hframe⟩⟩

theorem completes_unspecN (he : exec i s = .next (s.drawn.writeN rd z)) :
    Completes i s (WroteN rd [.draws] (Fits s.cfg.nw) s) := by
  obtain ⟨⟨hfits, -⟩, hother, hframe⟩ := wroteN_writeN s.drawn rd z
  exact ⟨_, he, WroteN.of_drawn ⟨hfits, hother, hframe⟩⟩

end Completion

section Formulas

variable (c : Cfg)

/-! ### Multiply, divide, convert (R145, R146, R149) -/

theorem mulW_eq (a b : Int) : mulW c a b = wrapW c (a * b / 2 ^ c.wf) := by rw [mulW, asr_eq]

theorem mulN_eq (a b : Int) : mulN c a b = wrapN c (a * b / 2 ^ c.nf) := by rw [mulN, asr_eq]

theorem mulWN_eq (a b : Int) : mulWN c a b = wrapW c (a * b / 2 ^ c.nf) := by rw [mulWN, asr_eq]

theorem divW_eq (a b : Int) : divW c a b = wrapW c (Int.tdiv (a * 2 ^ c.wf) b) := by
  rw [divW, tdiv, shl_eq]

theorem divN_eq (a b : Int) : divN c a b = wrapN c (Int.tdiv (a * 2 ^ c.nf) b) := by
  rw [divN, tdiv, shl_eq]

theorem isWrapW_mulW (a b : Int) : IsWrapW c (a * b / 2 ^ c.wf) (mulW c a b) :=
  mulW_eq c a b ▸ isWrapW_wrapW c _

theorem isWrapN_mulN (a b : Int) : IsWrapN c (a * b / 2 ^ c.nf) (mulN c a b) :=
  mulN_eq c a b ▸ isWrapN_wrapN c _

theorem isWrapW_mulWN (a b : Int) : IsWrapW c (a * b / 2 ^ c.nf) (mulWN c a b) :=
  mulWN_eq c a b ▸ isWrapW_wrapW c _

theorem isWrapW_divW (a b : Int) : IsWrapW c (Int.tdiv (a * 2 ^ c.wf) b) (divW c a b) :=
  divW_eq c a b ▸ isWrapW_wrapW c _

theorem isWrapN_divN (a b : Int) : IsWrapN c (Int.tdiv (a * 2 ^ c.nf) b) (divN c a b) :=
  divN_eq c a b ▸ isWrapN_wrapN c _

theorem isWrapW_cvtNW (v : Int) :
    IsWrapW c (if c.nf ≤ c.wf then v * 2 ^ (c.wf - c.nf) else v / 2 ^ (c.nf - c.wf)) (cvtNW c v) := by
  rw [cvtNW, shl_eq, asr_eq]
  exact isWrapW_wrapW c _

theorem isWrapN_cvtWN (v : Int) :
    IsWrapN c (if c.nf ≤ c.wf then v / 2 ^ (c.wf - c.nf) else v * 2 ^ (c.nf - c.wf)) (cvtWN c v) := by
  rw [cvtWN, shl_eq, asr_eq]
  exact isWrapN_wrapN c _

/-! ### Sine and cosine (R148) -/

/-- Every angle modulo 256 has an entry in SINTAB (R5). -/
theorem lt_sintab_length {k : Nat} (hk : k < 256) : k < c.sintab.length := by
  rw [c.ok.sintab_length]
  exact hk

theorem sinOf_eq (a : Byte) : sinOf c a = c.sintab[a.toNat]'(lt_sintab_length c a.isLt) :=
  List.getD_eq_getElem _ _ (lt_sintab_length c a.isLt)

/-- A quarter turn on is an addition modulo 256. -/
theorem cosOf_eq (a : Byte) :
    cosOf c a = c.sintab[(a.toNat + 64) % 256]'(lt_sintab_length c (Nat.mod_lt _ (by decide))) := by
  rw [cosOf, sinOf_eq]
  simp only [BitVec.toNat_add, BitVec.toNat_ofNat, Nat.reducePow, Nat.reduceMod]

/-! ### QuickDivide (R147) -/

/-- The magnitude of qdiv, before its sign is restored (R147). -/
def qdivMagnitude (n d : Int) : Int :=
  n * (c.recip[qdivIndex c d]'(qdivIndex_lt c d) : Int) / 2 ^ c.qdShift

theorem qdiv_eq (n d : Int) :
    qdiv c n d = wrapW c (if d < 0 then -qdivMagnitude c n d else qdivMagnitude c n d) := by
  rw [qdivMagnitude, ← asr_eq, ← List.getD_eq_getElem _ 0 (qdivIndex_lt c d)]
  rfl

theorem isWrapW_qdiv (n d : Int) :
    IsWrapW c (if d < 0 then -qdivMagnitude c n d else qdivMagnitude c n d) (qdiv c n d) :=
  qdiv_eq c n d ▸ isWrapW_wrapW c _

theorem qdivIndex_add_qdLo (d : Int) :
    qdivIndex c d + c.qdLo = min (max (d.natAbs / 2 ^ c.qdIshift) c.qdLo) c.qdHi := by
  have hle := c.ok.qd_le
  rw [qdivIndex]
  omega

/-- A zero denominator is clamped up to the first entry (R134). -/
theorem qdivIndex_zero : qdivIndex c 0 = 0 := by
  rw [qdivIndex, Int.natAbs_zero, Nat.zero_div]
  omega

theorem qdivIndex_neg (d : Int) : qdivIndex c (-d) = qdivIndex c d := by
  rw [qdivIndex, Int.natAbs_neg, qdivIndex]

/-- Denominators with the same index have the same magnitude. -/
theorem qdivMagnitude_congr (n : Int) {d e : Int} (h : qdivIndex c d = qdivIndex c e) :
    qdivMagnitude c n d = qdivMagnitude c n e := by
  simp only [qdivMagnitude, h]

/-- qdiv sees no more of the denominator than its index and its sign (R147). -/
theorem qdiv_congr (n : Int) {d e : Int} (hindex : qdivIndex c d = qdivIndex c e) (hsign : d < 0 ↔ e < 0) :
    qdiv c n d = qdiv c n e := by
  rw [qdiv_eq, qdiv_eq, qdivMagnitude_congr c n hindex]
  simp only [hsign]

/-! ### The laws of R150 -/

/-- The first number past the range wraps to the most negative one. -/
theorem wrap_two_pow {w : Nat} (hw : 1 ≤ w) : wrap w (2 ^ (w - 1)) = -(2 ^ (w - 1)) := by
  have hhalf := two_pow_half hw
  have hpos : (0 : Int) < 2 ^ (w - 1) := by positivity
  symm
  exact eq_wrap_of_fits_of_dvd hw ⟨le_refl _, by omega⟩ ⟨-1, by omega⟩

theorem mulW_comm (a b : Int) : mulW c a b = mulW c b a := by rw [mulW, mulW, mul_comm]

theorem mulN_comm (a b : Int) : mulN c a b = mulN c b a := by rw [mulN, mulN, mul_comm]

theorem mulW_oneW {a : Int} (ha : Fits c.ww a) : mulW c a c.oneW = a := by
  rw [mulW, Cfg.oneW, asr_mul_two_pow, wrapW_of_fits c ha]

theorem mulWN_oneN {a : Int} (ha : Fits c.ww a) : mulWN c a c.oneN = a := by
  rw [mulWN, Cfg.oneN, asr_mul_two_pow, wrapW_of_fits c ha]

theorem mulN_oneN {a : Int} (ha : Fits c.nw a) : mulN c a c.oneN = a := by
  rw [mulN, Cfg.oneN, asr_mul_two_pow, wrapN_of_fits c ha]

/-- The division by a power of two undoes the scaling of the numerator. -/
theorem mul_two_pow_tdiv (a : Int) (k : Nat) : Int.tdiv (a * 2 ^ k) (2 ^ k) = a :=
  Int.mul_tdiv_cancel a (by positivity)

theorem divW_oneW {a : Int} (ha : Fits c.ww a) : divW c a c.oneW = a := by
  rw [divW_eq, Cfg.oneW, mul_two_pow_tdiv, wrapW_of_fits c ha]

theorem divN_oneN {a : Int} (ha : Fits c.nw a) : divN c a c.oneN = a := by
  rw [divN_eq, Cfg.oneN, mul_two_pow_tdiv, wrapN_of_fits c ha]

theorem divW_zero_left (b : Int) : divW c 0 b = 0 := by rw [divW_eq, zero_mul, Int.zero_tdiv, wrapW_zero]

theorem divN_zero_left (b : Int) : divN c 0 b = 0 := by rw [divN_eq, zero_mul, Int.zero_tdiv, wrapN_zero]

/-- A truncated quotient is 0 or has the sign of the operands' product. -/
theorem sign_tdiv_of_ne_zero {a b : Int} (h : Int.tdiv a b ≠ 0) : (Int.tdiv a b).sign = a.sign * b.sign := by
  have hsign := Int.sign_tdiv a b
  split at hsign
  next => exact absurd (Int.sign_eq_zero_iff_zero.1 hsign) h
  next => exact hsign

theorem sign_divW {a b : Int} (hfits : Fits c.ww (Int.tdiv (a * 2 ^ c.wf) b)) (hne : divW c a b ≠ 0) :
    (divW c a b).sign = a.sign * b.sign := by
  have hdiv : divW c a b = Int.tdiv (a * 2 ^ c.wf) b := (divW_eq c a b).trans (wrapW_of_fits c hfits)
  have hpow : ((2 : Int) ^ c.wf).sign = 1 := Int.sign_eq_one_of_pos (by positivity)
  rw [hdiv] at hne ⊢
  rw [sign_tdiv_of_ne_zero hne, Int.sign_mul, hpow, mul_one]

/-- The overflow of the most negative number divided by minus one. -/
theorem divW_min_neg_oneW : divW c (-(2 ^ (c.ww - 1))) (-c.oneW) = -(2 ^ (c.ww - 1)) := by
  rw [divW_eq, Cfg.oneW, neg_mul, Int.neg_tdiv, Int.tdiv_neg, neg_neg, mul_two_pow_tdiv]
  exact wrap_two_pow (one_le_ww c)

end Formulas

/-! ### Clamp (R137) -/

/-- A clamp answers one of its three arguments, so it is in range when they are. -/
theorem fits_clamp {w : Nat} {v lo hi : Int} (hv : Fits w v) (hlo : Fits w lo) (hhi : Fits w hi) :
    Fits w (clamp v lo hi) := by
  obtain hmin | hmin := min_choice (max v lo) hi <;> rw [clamp, hmin]
  · obtain hmax | hmax := max_choice v lo <;> rw [hmax]
    · exact hv
    · exact hlo
  · exact hhi

/-! ### The QuickDivide of CFG_REF (R151) -/

/-- Entry `k` of a table. -/
theorem getElem_tabulate {α : Type} (f : Nat → α) (i n k : Nat) (h : k < (tabulate f i n).length) :
    (tabulate f i n)[k] = f (i + k) := by
  induction n generalizing i k with
  | zero => exact absurd h (Nat.not_lt_zero k)
  | succ n ih =>
    cases k with
    | zero => rfl
    | succ k => exact (ih (i + 1) k (Nat.lt_of_succ_lt_succ h)).trans (congrArg f (by omega))

theorem qdivIndex_ref (d : Int) : qdivIndex Cfg.ref d = min (max d.natAbs 1) 1024 - 1 := by
  have hshift : d.natAbs / 2 ^ Cfg.ref.qdIshift = d.natAbs := Nat.div_one _
  rw [qdivIndex, hshift]
  rfl

/-- Magnitudes past the table are those of its last entry. -/
theorem qdivIndex_ref_of_gt {m : Int} (hm : 1024 < m) : qdivIndex Cfg.ref m = qdivIndex Cfg.ref 1024 := by
  rw [qdivIndex_ref, qdivIndex_ref]
  omega

/-- The product of the numerator with the entry of the magnitude `m`, floor-shifted (R147, R151). -/
def refQuotient (n m : Int) : Int := n * (65536 / m) / 256

theorem qdivMagnitude_ref (n : Int) {m : Int} (h1 : 1 ≤ m) (h2 : m ≤ 1024) :
    qdivMagnitude Cfg.ref n m = refQuotient n m := by
  obtain ⟨k, rfl⟩ : ∃ k : Nat, m = (k + 1 : Nat) := ⟨(m - 1).toNat, by omega⟩
  have hindex : qdivIndex Cfg.ref ((k + 1 : Nat) : Int) = k := by
    rw [qdivIndex_ref, Int.natAbs_natCast]
    omega
  have hlt : k < Cfg.ref.recip.length := hindex ▸ qdivIndex_lt Cfg.ref _
  have hentry : Cfg.ref.recip[k] = 65536 / (0 + k + 1) := getElem_tabulate _ 0 1024 k hlt
  simp only [qdivMagnitude, hindex, hentry, zero_add, Int.natCast_ediv]
  rfl

section ErrorBound

variable {n m : Int}

/-- Inside the table and without a wrap, qdiv is the floored product. -/
theorem qdiv_ref (h1 : 1 ≤ m) (h2 : m ≤ 1024) (hfits : Fits 32 (refQuotient n m)) :
    qdiv Cfg.ref n m = refQuotient n m := by
  rw [qdiv_eq, if_neg (by omega), qdivMagnitude_ref n h1 h2]
  exact wrapW_of_fits Cfg.ref hfits

/-- A negative denominator negates, where the negation is in range. -/
theorem qdiv_ref_neg (h1 : 1 ≤ m) (h2 : m ≤ 1024) (hfits : Fits 32 (refQuotient n m))
    (hne : refQuotient n m ≠ -(2 ^ 31)) : qdiv Cfg.ref n (-m) = -refQuotient n m := by
  rw [qdiv_eq, if_pos (by omega), qdivMagnitude_congr _ _ (qdivIndex_neg Cfg.ref m), qdivMagnitude_ref n h1 h2]
  have hneg : Fits 32 (-refQuotient n m) := by
    unfold Fits at hfits ⊢
    omega
  exact wrapW_of_fits Cfg.ref hneg

/-- The table entry is below the reciprocal, by less than one unit. -/
theorem entry_bounds (hm : 1 ≤ m) : m * (65536 / m) ≤ 65536 ∧ 65536 < m * (65536 / m) + m :=
  ⟨Int.mul_ediv_self_le (by omega), Int.lt_mul_ediv_self_add (by omega)⟩

/-- The floor is below the product, by less than one unit; scaled by the magnitude. -/
theorem mul_refQuotient_bounds (n : Int) (hm : 1 ≤ m) :
    256 * (m * refQuotient n m) ≤ n * (m * (65536 / m)) ∧
    n * (m * (65536 / m)) < 256 * (m * refQuotient n m) + 256 * m := by
  have hpos : 0 < m := by omega
  have hle : 256 * refQuotient n m ≤ n * (65536 / m) := Int.mul_ediv_self_le (by decide)
  have hlt : n * (65536 / m) < 256 * refQuotient n m + 256 := Int.lt_mul_ediv_self_add (by decide)
  constructor
  · linarith only [mul_le_mul_of_nonneg_left hle hpos.le]
  · linarith only [mul_lt_mul_of_pos_left hlt hpos]

theorem mul_refQuotient_le (hm : 1 ≤ m) (hn : 0 ≤ n) : m * refQuotient n m ≤ 256 * n := by
  obtain ⟨hentry, -⟩ := entry_bounds hm
  obtain ⟨hfloor, -⟩ := mul_refQuotient_bounds n hm
  linarith only [hfloor, mul_le_mul_of_nonneg_left hentry hn]

theorem lt_mul_refQuotient (hm : 1 ≤ m) (hn : 0 ≤ n) :
    256 * n * (65536 - m) - 65536 * m < 65536 * (m * refQuotient n m) := by
  obtain ⟨-, hentry⟩ := entry_bounds hm
  obtain ⟨-, hfloor⟩ := mul_refQuotient_bounds n hm
  linarith only [hfloor, mul_le_mul_of_nonneg_left hentry.le hn]

theorem lt_mul_refQuotient_of_neg (hm : 1 ≤ m) (hn : n < 0) : 256 * n - m < m * refQuotient n m := by
  obtain ⟨hentry, -⟩ := entry_bounds hm
  obtain ⟨-, hfloor⟩ := mul_refQuotient_bounds n hm
  linarith only [hfloor, mul_le_mul_of_nonpos_left hentry hn.le]

theorem mul_refQuotient_le_of_neg (hm : 1 ≤ m) (hn : n < 0) :
    65536 * (m * refQuotient n m) ≤ 256 * n * (65536 - m) := by
  obtain ⟨-, hentry⟩ := entry_bounds hm
  obtain ⟨hfloor, -⟩ := mul_refQuotient_bounds n hm
  linarith only [hfloor, mul_le_mul_of_nonpos_left hentry.le hn.le]

/-- An exact entry makes the product the floor of the exact quotient. -/
theorem refQuotient_of_dvd (hm : 1 ≤ m) (h : 65536 % m = 0) : refQuotient n m = 256 * n / m := by
  have hdvd : m ∣ 65536 := Int.dvd_of_emod_eq_zero h
  have hentry : 65536 / m * m = 65536 := Int.ediv_mul_cancel hdvd
  have hpos : 0 < 65536 / m := Int.ediv_pos_of_pos_of_dvd (by decide) (by omega) hdvd
  calc n * (65536 / m) / 256
      = 256 * (n * (65536 / m)) / (256 * 256) := (Int.mul_ediv_mul_of_pos _ _ (by decide)).symm
    _ = (65536 / m) * (256 * n) / ((65536 / m) * m) := by
      congr 1
      · ring
      · rw [hentry]; rfl
    _ = 256 * n / m := Int.mul_ediv_mul_of_pos _ _ hpos

end ErrorBound

end Sys2Proof.Machine

/-! ### The obligations -/

namespace Sys2Proof.Proofs

open Sys2Proof.Machine Sys2Proof.Safety Sys2Proof.Claims

/-- Settles O29, law by law. -/
theorem arithmeticLaws : Obligations.ArithmeticLaws := by
  unfold Obligations.ArithmeticLaws
  intro c
  refine ⟨?_, ?_, fun a b => ⟨mulW_comm c a b, mulN_comm c a b⟩,
    fun a ha => ⟨mulW_oneW c ha, mulWN_oneN c ha, divW_oneW c ha⟩,
    fun a ha => ⟨mulN_oneN c ha, divN_oneN c ha⟩,
    fun b _ => ⟨divW_zero_left c b, divN_zero_left c b⟩,
    fun a b _ => sign_divW c, divW_min_neg_oneW c⟩
  · rw [neg_neg]; exact wrap_two_pow (one_le_ww c)
  · rw [neg_neg]; exact wrap_two_pow (one_le_nw c)

/-- Settles O30: the entry is a floor and the product is a floor, and the two errors add up. -/
theorem quickDivideErrorBound : Obligations.QuickDivideErrorBound := by
  unfold Obligations.QuickDivideErrorBound
  refine ⟨fun n m h1 h2 hfits => ?_, fun n m hm => ⟨?_, ?_⟩, fun n => ?_⟩
  · rw [qdiv_ref h1 h2 hfits]
    exact ⟨fun hn => ⟨mul_refQuotient_le h1 hn, lt_mul_refQuotient h1 hn⟩,
      fun hn => ⟨lt_mul_refQuotient_of_neg h1 hn, fun _ => mul_refQuotient_le_of_neg h1 hn,
        fun hdvd => refQuotient_of_dvd h1 hdvd⟩,
      fun hne => qdiv_ref_neg h1 h2 hfits hne⟩
  · exact qdiv_congr _ n (qdivIndex_ref_of_gt hm) (by omega)
  · exact qdiv_congr _ n (by rw [qdivIndex_neg, qdivIndex_neg, qdivIndex_ref_of_gt hm]) (by omega)
  · exact qdiv_congr _ n (by rw [qdivIndex_ref, qdivIndex_ref]; rfl) (by decide)

/-- Settles O17, by the formula of each function. -/
theorem scalarFunctions : Obligations.ScalarFunctions := by
  unfold Obligations.ScalarFunctions
  exact fun c => ⟨fun a b => ⟨isWrapW_mulW c a b, isWrapN_mulN c a b, isWrapW_mulWN c a b,
      fun _ => ⟨isWrapW_divW c a b, isWrapN_divN c a b⟩⟩,
    fun n d => ⟨qdivIndex c d, qdivIndex_lt c d, qdivIndex_add_qdLo c d, isWrapW_qdiv c n d⟩,
    fun a => ⟨_, _, sinOf_eq c a, cosOf_eq c a⟩,
    fun v => ⟨isWrapW_cvtNW c v, isWrapN_cvtWN c v⟩⟩

/-- Settles O19: the immediates are written, those of a byte without a wrap. -/
theorem loadImmediates : Obligations.LoadImmediates := by
  unfold Obligations.LoadImmediates
  exact ⟨fun rd imm s => ⟨decode_of_encode_eq rfl rfl, completes_writeW rfl fun _ => id⟩,
    fun rd imm s => ⟨decode_of_encode_eq rfl rfl, completes_writeN rfl fun _ => id⟩,
    fun rd imm s => ⟨decode_of_encode_eq rfl rfl, completes_writeB rfl rfl⟩⟩

/-- Settles O20: the exact result is written, and the write wraps it. -/
theorem wideAddSubtractNegate : Obligations.WideAddSubtractNegate := by
  unfold Obligations.WideAddSubtractNegate
  exact ⟨fun rd ra rb s => ⟨decode_of_encode_eq rfl rfl, completes_writeW rfl fun _ => id⟩,
    fun rd ra rb s => ⟨decode_of_encode_eq rfl rfl, completes_writeW rfl fun _ => id⟩,
    fun rd ra s => ⟨decode_of_encode_eq rfl rfl, completes_writeW rfl fun _ => id⟩⟩

/-- Settles O21: the exact result is written, and the write wraps it. -/
theorem narrowAddSubtractNegate : Obligations.NarrowAddSubtractNegate := by
  unfold Obligations.NarrowAddSubtractNegate
  exact ⟨fun rd ra rb s => ⟨decode_of_encode_eq rfl rfl, completes_writeN rfl fun _ => id⟩,
    fun rd ra rb s => ⟨decode_of_encode_eq rfl rfl, completes_writeN rfl fun _ => id⟩,
    fun rd ra s => ⟨decode_of_encode_eq rfl rfl, completes_writeN rfl fun _ => id⟩⟩

/-- Settles O22: what is written is the product of R145. -/
theorem multiplies : Obligations.Multiplies := by
  unfold Obligations.Multiplies
  exact ⟨fun rd ra rb s => ⟨decode_of_encode_eq rfl rfl,
      completes_writeW rfl fun _ => (isWrapW_mulW s.cfg _ _).trans⟩,
    fun rd ra rb s => ⟨decode_of_encode_eq rfl rfl,
      completes_writeN rfl fun _ => (isWrapN_mulN s.cfg _ _).trans⟩,
    fun rd ra rb s => ⟨decode_of_encode_eq rfl rfl,
      completes_writeW rfl fun _ => (isWrapW_mulWN s.cfg _ _).trans⟩⟩

/-- Settles O23: the branch that the divisor takes. -/
theorem divides : Obligations.Divides := by
  unfold Obligations.Divides
  exact ⟨fun rd ra rb s => ⟨decode_of_encode_eq rfl rfl,
      fun hb => completes_writeW (if_neg hb) fun _ => (isWrapW_divW s.cfg _ _).trans,
      fun hb => completes_unspecW (if_pos hb)⟩,
    fun rd ra rb s => ⟨decode_of_encode_eq rfl rfl,
      fun hb => completes_writeN (if_neg hb) fun _ => (isWrapN_divN s.cfg _ _).trans,
      fun hb => completes_unspecN (if_pos hb)⟩⟩

/-- Settles O24: what is written is the quotient of R147. -/
theorem quickDivide : Obligations.QuickDivide := by
  unfold Obligations.QuickDivide
  intro rd ra rb s
  refine ⟨decode_of_encode_eq rfl rfl, qdivIndex s.cfg (s.readN rb), qdivIndex_lt s.cfg _,
    qdivIndex_add_qdLo s.cfg _, fun hb => ?_, completes_writeW rfl fun _ => (isWrapW_qdiv s.cfg _ _).trans⟩
  rw [hb, qdivIndex_zero]

/-- Settles O25: what is written is the conversion of R149. -/
theorem widthConversions : Obligations.WidthConversions := by
  unfold Obligations.WidthConversions
  exact ⟨fun rd ra s => ⟨decode_of_encode_eq rfl rfl,
      completes_writeW rfl fun _ => (isWrapW_cvtNW s.cfg _).trans⟩,
    fun rd ra s => ⟨decode_of_encode_eq rfl rfl,
      completes_writeN rfl fun _ => (isWrapN_cvtWN s.cfg _).trans⟩⟩

/-- Settles O26: the clamp is one of the three operands, so the write keeps it when they are in range. -/
theorem clampWide : Obligations.ClampWide := by
  unfold Obligations.ClampWide
  exact fun rd ra rb rc s => ⟨decode_of_encode_eq rfl rfl, completes_writeW rfl fun v hv =>
    ⟨hv, fun hs => hv.eq_of_fits (fits_clamp (hs.w ra) (hs.w rb) (hs.w rc))⟩⟩

/-- Settles O27: an entry of SINTAB is a narrow value, so the write keeps it. -/
theorem sineAndCosine : Obligations.SineAndCosine := by
  unfold Obligations.SineAndCosine
  exact ⟨fun rd ra s => ⟨decode_of_encode_eq rfl rfl, _, completes_writeN rfl fun _ hv =>
      (hv.eq_of_fits (fits_sinOf s.cfg _)).trans (sinOf_eq s.cfg _)⟩,
    fun rd ra s => ⟨decode_of_encode_eq rfl rfl, _, completes_writeN rfl fun _ hv =>
      (hv.eq_of_fits (fits_cosOf s.cfg _)).trans (cosOf_eq s.cfg _)⟩⟩

/-- Settles O28: a byte's arithmetic is modulo 256. -/
theorem byteArithmetic : Obligations.ByteArithmetic := by
  unfold Obligations.ByteArithmetic
  exact ⟨fun rd ra rb s => ⟨decode_of_encode_eq rfl rfl, completes_writeB rfl (BitVec.toNat_add _ _)⟩,
    fun rd ra imm s => ⟨decode_of_encode_eq rfl rfl, completes_writeB rfl (BitVec.toNat_add _ _)⟩,
    fun rd ra s => ⟨decode_of_encode_eq rfl rfl, completes_writeB rfl (BitVec.toNat_neg _)⟩⟩

end Sys2Proof.Proofs

/-! PROOFS. The family 42_vector_matrix.md. Each vector and matrix function is said once by the formula of its rule,
lane by lane; each command is one register write of such a value, and the laws of R175, R176 and R187 follow. -/

namespace Sys2Proof.Safety

open Sys2Proof.Machine

/-! ### Vectors and matrices written to a register -/

/-- The negation of a wrap is a wrap of the negation, once it is wrapped itself (R9). -/
theorem IsWrap.neg_of_neg {w : Nat} {z u v : Int} (hu : IsWrap w z u) (hv : IsWrap w (-z) v) :
    IsWrap w (-u) v := by
  obtain ⟨-, hzu⟩ := hu
  obtain ⟨hfits, hzv⟩ := hv
  refine ⟨hfits, ?_⟩
  rw [show v - -u = (v - -z) + (u - z) by ring]
  exact dvd_add hzv hzu

/-- What holds of the lanes of a lane-by-lane function holds of its values (R174). -/
theorem EachLane.of_map {p : Int → Int → Prop} {f : Int → Int} {a v : V3} (h : EachLane p (a.map f) v)
    (l : Lane) : p (f (a.get l)) (v.get l) :=
  V3.get_map f a l ▸ h l

theorem EachLane.of_zipWith {p : Int → Int → Prop} {f : Int → Int → Int} {a b v : V3}
    (h : EachLane p (V3.zipWith f a b) v) (l : Lane) : p (f (a.get l) (b.get l)) (v.get l) :=
  V3.get_zipWith f a b l ▸ h l

/-- A vector whose lanes are of the width is written as it is. -/
theorem eq_of_lanesW {c : Cfg} {z v : V3} (h : EachLane (IsWrapW c) z v) (hz : V3.Fits c.ww z) : v = z :=
  V3.ext_get fun l => (h l).eq_of_fits (V3.Fits.get hz l)

theorem eq_of_lanesN {c : Cfg} {z v : V3} (h : EachLane (IsWrapN c) z v) (hz : V3.Fits c.nw z) : v = z :=
  V3.ext_get fun l => (h l).eq_of_fits (V3.Fits.get hz l)

/-- An element of a matrix of the width is of the width. -/
theorem fits_get_of_matFits {w : Nat} {m : Mat} (h : Mat.Fits w m) (i j : Lane) : Fits w (m.get i j) := by
  obtain ⟨h0, h1, h2⟩ := h
  fin_cases i
  · exact V3.Fits.get h0 j
  · exact V3.Fits.get h1 j
  · exact V3.Fits.get h2 j

/-- A matrix whose elements are of the width is written as it is. -/
theorem eq_of_elements {c : Cfg} {z m : Mat} (h : ∀ i j, IsWrapN c (z.get i j) (m.get i j))
    (hz : Mat.Fits c.nw z) : m = z :=
  Mat.ext_get fun i j => (h i j).eq_of_fits (fits_get_of_matFits hz i j)

end Sys2Proof.Safety

namespace Sys2Proof.Machine

open Sys2Proof.Safety Sys2Proof.Claims

section Completion

variable {i : Instr} {s t : State} {rd : RegNo}

/-- A command has one next state, so what it completes with holds of that state. -/
theorem post_of_completes {post : State → Prop} (h : Completes i s post) (ht : exec i s = .next t) : post t := by
  obtain ⟨u, hu, hpost⟩ := h
  obtain rfl : u = t := Host.Outcome.next.inj (hu.symm.trans ht)
  exact hpost

/-- A command that writes `z` to VW[rd] completes with what is known of every lane-by-lane wrap of `z`. -/
theorem completes_writeVW {p : V3 → Prop} {z : V3} (he : exec i s = .next (s.writeVW rd z))
    (hp : ∀ v, EachLane (IsWrapW s.cfg) z v → p v) : Completes i s (WroteVW rd [] p s) := by
  obtain ⟨hv, hother, hframe⟩ := wroteVW_writeVW s rd z
  exact ⟨_, he, hp _ hv, hother, hframe⟩

theorem completes_writeVN {p : V3 → Prop} {z : V3} (he : exec i s = .next (s.writeVN rd z))
    (hp : ∀ v, EachLane (IsWrapN s.cfg) z v → p v) : Completes i s (WroteVN rd [] p s) := by
  obtain ⟨hv, hother, hframe⟩ := wroteVN_writeVN s rd z
  exact ⟨_, he, hp _ hv, hother, hframe⟩

theorem completes_writeM {p : Mat → Prop} {z : Mat} (he : exec i s = .next (s.writeM rd z))
    (hp : ∀ m, (∀ i j, IsWrapN s.cfg (z.get i j) (m.get i j)) → p m) : Completes i s (WroteM rd [] p s) := by
  obtain ⟨hv, hother, hframe⟩ := wroteM_writeM s rd z
  exact ⟨_, he, hp _ hv, hother, hframe⟩

end Completion

/-! ### Lane fields (R91) -/

/-- A legal lane field has the effect of the lane it names (R91). -/
theorem withLane_ofNat (s : State) (l : Lane) (effect : Lane → State) :
    withLane (BitVec.ofNat 2 l) s effect = .next (effect l) := by
  fin_cases l <;> rfl

/-- A field that names a lane is not the illegal 3 (R104 c). -/
theorem laneOk_ofNat (l : Lane) : laneOk (BitVec.ofNat 2 l) = true := by
  fin_cases l <;> rfl

section Formulas

variable (c : Cfg)

/-! ### The cross product (R175) -/

/-- What the two cross commands write: the textbook differences, wrapped. -/
theorem completes_vcrossw (rd ra rb : RegNo) (s : State) :
    Completes (.vcrossw rd ra rb) s
      (WroteVW rd [] (EachLane (IsWrapW s.cfg) (cross (mulW s.cfg) (s.readVW ra) (s.readVW rb))) s) :=
  completes_writeVW rfl fun _ => id

theorem completes_vcrossn (rd ra rb : RegNo) (s : State) :
    Completes (.vcrossn rd ra rb) s
      (WroteVN rd [] (EachLane (IsWrapN s.cfg) (cross (mulN s.cfg) (s.readVN ra) (s.readVN rb))) s) :=
  completes_writeVN rfl fun _ => id

section Commutative

variable {mul : Int → Int → Int} (hmul : ∀ a b, mul a b = mul b a)

include hmul

/-- With a commutative product the two products of a lane are the same. -/
theorem cross_self (a : V3) : cross mul a a = V3.zero := by
  rw [cross, hmul a.z a.y, hmul a.x a.z, hmul a.y a.x, sub_self, sub_self, sub_self, V3.zero]

/-- With a commutative product the exchange of the operands exchanges the two products of every lane. -/
theorem get_cross_swap (a b : V3) (l : Lane) : (cross mul b a).get l = -(cross mul a b).get l := by
  have hlane (p q r t : Int) : mul p q - mul r t = -(mul t r - mul q p) := by
    rw [neg_sub, hmul p q, hmul r t]
  fin_cases l
  · exact hlane b.y a.z b.z a.y
  · exact hlane b.z a.x b.x a.z
  · exact hlane b.x a.y b.y a.x

end Commutative

/-! ### Interpolation (R176) -/

theorem get_lerp (a b : V3) (k sh : Nat) (l : Lane) :
    (lerp c a b k sh).get l = wrapN c (a.get l + (b.get l - a.get l) * k / 2 ^ sh) := by
  rw [lerp, V3.get_zipWith, lerpLane, asr_eq]

theorem isWrapN_lerp (a b : V3) (k sh : Nat) (l : Lane) :
    IsWrapN c (a.get l + (b.get l - a.get l) * k / 2 ^ sh) ((lerp c a b k sh).get l) :=
  get_lerp c a b k sh l ▸ isWrapN_wrapN c _

/-- A fraction up to 1 of a difference, floored, stays between 0 and the difference. -/
theorem fraction_between {k sh : Nat} (hk : k ≤ 2 ^ sh) (d : Int) :
    min d 0 ≤ d * k / 2 ^ sh ∧ d * k / 2 ^ sh ≤ max d 0 := by
  have hpos : (0 : Int) < 2 ^ sh := by positivity
  have hk0 : (0 : Int) ≤ k := Int.natCast_nonneg k
  have hk1 : (k : Int) ≤ 2 ^ sh := by exact_mod_cast hk
  rcases le_total 0 d with hd | hd
  · rw [min_eq_right hd, max_eq_left hd]
    exact ⟨Int.ediv_nonneg (mul_nonneg hd hk0) hpos.le,
      Int.ediv_le_of_le_mul hpos (mul_le_mul_of_nonneg_left hk1 hd)⟩
  · rw [min_eq_left hd, max_eq_right hd]
    exact ⟨Int.le_ediv_of_mul_le hpos (mul_le_mul_of_nonpos_left hk1 hd),
      Int.ediv_le_of_le_mul hpos (by rw [zero_mul]; exact mul_nonpos_of_nonpos_of_nonneg hd hk0)⟩

section Between

variable {c} {a b : V3} {k sh : Nat} (hk : k ≤ 2 ^ sh)

include hk

/-- Before the wrap, an interpolated lane lies between its two ends (R176). -/
theorem interpolated_between (l : Lane) :
    min (a.get l) (b.get l) ≤ a.get l + (b.get l - a.get l) * k / 2 ^ sh ∧
    a.get l + (b.get l - a.get l) * k / 2 ^ sh ≤ max (a.get l) (b.get l) := by
  obtain ⟨hlo, hhi⟩ := fraction_between hk (b.get l - a.get l)
  omega

variable (ha : ∀ l, Fits c.nw (a.get l)) (hb : ∀ l, Fits c.nw (b.get l))

include ha hb

/-- So the wrap keeps it, when the ends are in range. -/
theorem get_lerp_of_fits (l : Lane) :
    (lerp c a b k sh).get l = a.get l + (b.get l - a.get l) * k / 2 ^ sh := by
  obtain ⟨hlo, hhi⟩ := interpolated_between (a := a) (b := b) hk l
  obtain ⟨ha0, ha1⟩ := ha l
  obtain ⟨hb0, hb1⟩ := hb l
  rw [get_lerp]
  exact wrapN_of_fits c ⟨(le_min ha0 hb0).trans hlo, hhi.trans_lt (max_lt ha1 hb1)⟩

end Between

/-! ### The elementary rotations (R188) -/

theorem fits_rotX (t : Byte) : Mat.Fits c.nw (rotX c t) :=
  ⟨⟨fits_oneN c, fits_zero _, fits_zero _⟩, ⟨fits_zero _, fits_cosOf c t, fits_sinOf c t⟩,
    ⟨fits_zero _, fits_wrapN c _, fits_cosOf c t⟩⟩

theorem fits_rotY (t : Byte) : Mat.Fits c.nw (rotY c t) :=
  ⟨⟨fits_cosOf c t, fits_zero _, fits_wrapN c _⟩, ⟨fits_zero _, fits_oneN c, fits_zero _⟩,
    ⟨fits_sinOf c t, fits_zero _, fits_cosOf c t⟩⟩

theorem fits_rotZ (t : Byte) : Mat.Fits c.nw (rotZ c t) :=
  ⟨⟨fits_cosOf c t, fits_sinOf c t, fits_zero _⟩, ⟨fits_wrapN c _, fits_cosOf c t, fits_zero _⟩,
    ⟨fits_zero _, fits_zero _, fits_oneN c⟩⟩

/-! ### Product, transform, forward vector (R187, R189) -/

theorem isWrapN_mmul (a b : Mat) (i j : Lane) :
    IsWrapN c (a.get i 0 * b.get 0 j / 2 ^ c.nf + a.get i 1 * b.get 1 j / 2 ^ c.nf
      + a.get i 2 * b.get 2 j / 2 ^ c.nf) ((mmul c a b).get i j) := by
  rw [mmul, Mat.get_ofFn, asr_eq, asr_eq, asr_eq]
  exact isWrapN_wrapN c _

theorem isWrapN_mvmul (v : V3) (m : Mat) (j : Lane) :
    IsWrapN c (v.x * m.get 0 j / 2 ^ c.nf + v.y * m.get 1 j / 2 ^ c.nf + v.z * m.get 2 j / 2 ^ c.nf)
      ((mvmul c v m).get j) := by
  rw [mvmul, V3.get_ofFn, asr_eq, asr_eq, asr_eq]
  exact isWrapN_wrapN c _

theorem get_forward (m : Mat) (l : Lane) : (forward m).get l = m.get 2 l := by
  fin_cases l <;> rfl

/-- The transform of the unit forward vector: ONE_N scales row 2 by one and the other rows vanish (R187). -/
theorem mvmul_unitForward (m : Mat) : mvmul c ⟨0, 0, c.oneN⟩ m = (forward m).map (wrapN c) :=
  V3.ext_get fun l => by
    rw [V3.get_map, get_forward, mvmul, V3.get_ofFn, zero_mul, zero_mul, asr_zero_left, zero_add, zero_add,
      mul_comm, Cfg.oneN, asr_mul_two_pow]

/-- The write wraps, so wrapping the lanes first changes nothing (R174). -/
theorem writeVN_map_wrapN (s : State) (rd : RegNo) (v : V3) :
    s.writeVN rd (v.map (wrapN s.cfg)) = s.writeVN rd v := by
  have hmap : (v.map (wrapN s.cfg)).map (wrapN s.cfg) = v.map (wrapN s.cfg) :=
    V3.ext_get fun l => by rw [V3.get_map, V3.get_map, wrapN_wrapN]
  rw [State.writeVN, State.writeVN, hmap]

end Formulas

end Sys2Proof.Machine

/-! ### The obligations -/

namespace Sys2Proof.Proofs

open Sys2Proof.Machine Sys2Proof.Safety Sys2Proof.Claims

/-- Settles O34: the products commute, so the two of a lane cancel, or change places. -/
theorem crossProductLaws : Obligations.CrossProductLaws := by
  unfold Obligations.CrossProductLaws
  refine ⟨fun rd ra s => ⟨completes_writeVW rfl fun v hv => ?_, completes_writeVN rfl fun v hv => ?_⟩,
    fun rd ra rb s t u => ⟨fun ht hu l => ?_, fun ht hu l => ?_⟩⟩
  · rw [cross_self (mulW_comm s.cfg)] at hv
    exact eq_of_lanesW hv ⟨fits_zero _, fits_zero _, fits_zero _⟩
  · rw [cross_self (mulN_comm s.cfg)] at hv
    exact eq_of_lanesN hv ⟨fits_zero _, fits_zero _, fits_zero _⟩
  · obtain ⟨hab, -, -⟩ := post_of_completes (completes_vcrossw rd ra rb s) ht
    obtain ⟨hba, -, -⟩ := post_of_completes (completes_vcrossw rd rb ra s) hu
    exact IsWrap.neg_of_neg (hab l) (get_cross_swap (mulW_comm s.cfg) _ _ l ▸ hba l)
  · obtain ⟨hab, -, -⟩ := post_of_completes (completes_vcrossn rd ra rb s) ht
    obtain ⟨hba, -, -⟩ := post_of_completes (completes_vcrossn rd rb ra s) hu
    exact IsWrap.neg_of_neg (hab l) (get_cross_swap (mulN_comm s.cfg) _ _ l ▸ hba l)

/-- Settles O36: up to the fraction 1 nothing wraps, and the floored step is exact at both ends. -/
theorem interpolationLaws : Obligations.InterpolationLaws := by
  unfold Obligations.InterpolationLaws
  refine fun c a b sh ha hb => ⟨V3.ext_get fun l => ?_, V3.ext_get fun l => ?_, fun k l _ hk => ?_⟩
  · rw [get_lerp_of_fits (Nat.zero_le _) ha hb, Nat.cast_zero, mul_zero, Int.zero_ediv, add_zero]
  · rw [get_lerp_of_fits le_rfl ha hb, Nat.cast_pow, Nat.cast_ofNat, Int.mul_ediv_cancel _ (by positivity),
      add_sub_cancel]
  · rw [get_lerp_of_fits hk.le ha hb]
    exact interpolated_between hk.le l

/-- Settles O40: the transform of the unit forward vector is row 2, wrapped as the write wraps it. -/
theorem forwardVector : Obligations.ForwardVector := by
  unfold Obligations.ForwardVector
  refine fun rd ra s => ⟨decode_of_encode_eq rfl rfl, s.writeVN rd (forward (s.readM ra)), rfl, ?_,
    fun rv hrv => ?_⟩
  · obtain ⟨hv, hother, hframe⟩ := wroteVN_writeVN s rd (forward (s.readM ra))
    exact ⟨fun l => get_forward (s.readM ra) l ▸ hv l, hother, hframe⟩
  · calc exec (.mvmul rd rv ra) s
        = .next (s.writeVN rd (mvmul s.cfg (s.readVN rv) (s.readM ra))) := rfl
      _ = .next (s.writeVN rd (forward (s.readM ra))) := by
        rw [hrv, mvmul_unitForward, writeVN_map_wrapN]

/-- Settles O18, by the formula of each function. -/
theorem vectorAndMatrixFunctions : Obligations.VectorAndMatrixFunctions := by
  unfold Obligations.VectorAndMatrixFunctions
  exact fun c => ⟨isWrapN_lerp c, fun _ => ⟨rfl, rfl, rfl⟩, isWrapN_mmul c, isWrapN_mvmul c, get_mtrans⟩

/-- Settles O31: the exact lanes are written, and the write wraps them. -/
theorem vectorAddSubtract : Obligations.VectorAddSubtract := by
  unfold Obligations.VectorAddSubtract
  exact ⟨fun rd ra rb s => ⟨decode_of_encode_eq rfl rfl, completes_writeVW rfl fun _ hv => hv.of_zipWith⟩,
    fun rd ra rb s => ⟨decode_of_encode_eq rfl rfl, completes_writeVN rfl fun _ hv => hv.of_zipWith⟩,
    fun rd ra rb s => ⟨decode_of_encode_eq rfl rfl, completes_writeVW rfl fun _ hv => hv.of_zipWith⟩,
    fun rd ra rb s => ⟨decode_of_encode_eq rfl rfl, completes_writeVN rfl fun _ hv => hv.of_zipWith⟩⟩

/-- Settles O32: what is written in each lane is the product of R145, or the conversion of R149. -/
theorem vectorScaleConvert : Obligations.VectorScaleConvert := by
  unfold Obligations.VectorScaleConvert
  exact ⟨fun rd ra rb s => ⟨decode_of_encode_eq rfl rfl,
      completes_writeVN rfl fun _ hv l => (isWrapN_mulN s.cfg _ _).trans (hv.of_map l)⟩,
    fun rd ra rb s => ⟨decode_of_encode_eq rfl rfl,
      completes_writeVW rfl fun _ hv l => (isWrapW_mulWN s.cfg _ _).trans (hv.of_map l)⟩,
    fun rd ra s => ⟨decode_of_encode_eq rfl rfl,
      completes_writeVW rfl fun _ hv l => (isWrapW_cvtNW s.cfg _).trans (hv.of_map l)⟩⟩

/-- Settles O33: the three lanes of the cross product, one by one. -/
theorem crossProducts : Obligations.CrossProducts := by
  unfold Obligations.CrossProducts
  exact ⟨fun rd ra rb s => ⟨decode_of_encode_eq rfl rfl, completes_writeVW rfl fun _ hv => ⟨hv 0, hv 1, hv 2⟩⟩,
    fun rd ra rb s => ⟨decode_of_encode_eq rfl rfl, completes_writeVN rfl fun _ hv => ⟨hv 0, hv 1, hv 2⟩⟩⟩

/-- Settles O35: what is written is the interpolation of R176. -/
theorem interpolate : Obligations.Interpolate := by
  unfold Obligations.Interpolate
  exact fun rd ra rb k sh s => ⟨decode_of_encode_eq rfl rfl,
    completes_writeVN rfl fun _ hv l => (isWrapN_lerp s.cfg _ _ _ _ l).trans (hv l)⟩

/-- Settles O37: a field that names a lane has that lane's effect, one write. -/
theorem laneExtractInsert : Obligations.LaneExtractInsert := by
  unfold Obligations.LaneExtractInsert
  rintro rd ra _ l s rfl
  have hlane := laneOk_ofNat l
  exact ⟨decode_of_encode_eq hlane rfl, completes_writeW (withLane_ofNat s l _) fun _ => id,
    decode_of_encode_eq hlane rfl, completes_writeN (withLane_ofNat s l _) fun _ => id,
    decode_of_encode_eq hlane rfl, ⟨_, withLane_ofNat s l _, wroteVW_writeVWLane s rd l _⟩,
    decode_of_encode_eq hlane rfl, ⟨_, withLane_ofNat s l _, wroteVN_writeVNLane s rd l _⟩⟩

/-- Settles O38: the elements are narrow values, so the write keeps them. -/
theorem identityAndRotations : Obligations.IdentityAndRotations := by
  unfold Obligations.IdentityAndRotations
  refine ⟨fun rd s => ⟨decode_of_encode_eq rfl rfl, completes_writeM rfl fun m hm i j =>
      ((hm i j).eq_of_fits (fits_identity s.cfg i j)).trans (get_identity s.cfg i j)⟩,
    fun rd ra s => ⟨lt_sintab_length s.cfg (s.readB ra).isLt,
      lt_sintab_length s.cfg (Nat.mod_lt _ (by decide)), ?_⟩⟩
  rw [← sinOf_eq, ← cosOf_eq]
  exact ⟨decode_of_encode_eq rfl rfl, completes_writeM rfl fun m hm => eq_of_elements hm (fits_rotX s.cfg _),
    decode_of_encode_eq rfl rfl, completes_writeM rfl fun m hm => eq_of_elements hm (fits_rotY s.cfg _),
    decode_of_encode_eq rfl rfl, completes_writeM rfl fun m hm => eq_of_elements hm (fits_rotZ s.cfg _)⟩

/-- Settles O39: what is written is the sum of R189, or the transpose. -/
theorem matrixProducts : Obligations.MatrixProducts := by
  unfold Obligations.MatrixProducts
  exact ⟨fun rd ra rb s => ⟨decode_of_encode_eq rfl rfl,
      completes_writeM rfl fun _ hm i j => (isWrapN_mmul s.cfg _ _ i j).trans (hm i j)⟩,
    fun rd ra s => ⟨decode_of_encode_eq rfl rfl,
      completes_writeM rfl fun _ hm i j => get_mtrans (s.readM ra) i j ▸ hm i j⟩,
    fun rd ra rb s => ⟨decode_of_encode_eq rfl rfl,
      completes_writeVN rfl fun _ hv j => (isWrapN_mvmul s.cfg _ _ j).trans (hv j)⟩⟩

end Sys2Proof.Proofs

/-! PROOFS. The family 43_rayplane.md. The class of a ray is said once for each range of its y lane, the two plane
hits are one write of a point and its distance; a frame is a scan of the screen in which one step draws each pixel,
so every pixel is the level of its own sample, and in the two flat bands that level does not see the position. -/

namespace Sys2Proof.Machine

open Sys2Proof.Safety Sys2Proof.Claims

/-! ### The class of a ray (R203) -/

section Class

variable {c : Cfg} {y : Int}

theorem classify_of_lt (h : y < -(c.tBand : Int)) : classify c y = .ground := if_pos h

theorem classify_of_dead_band (hlo : -(c.tBand : Int) ≤ y) (hhi : y < 0) : classify c y = .dead := by
  rw [classify, if_neg (not_lt.2 hlo), if_pos hhi]

theorem classify_of_sky_band (hlo : 0 ≤ y) (hhi : y ≤ (c.tBand : Int)) : classify c y = .sky := by
  rw [classify, if_neg (by omega), if_neg (not_lt.2 hlo), if_neg (not_lt.2 hhi)]

theorem classify_of_gt (h : (c.tBand : Int) < y) : classify c y = .cloud := by
  rw [classify, if_neg (by omega), if_neg (by omega), if_pos h]

end Class

/-! ### The plane hits (R204, R205) -/

/-- A point on a plane of wide height is a wide vector, so a write to VW keeps it. -/
theorem map_wrapW_planePoint (c : Cfg) (p d : V3) {h : Int} (hh : Fits c.ww h) (dist : Int) :
    (planePoint c p d h dist).map (wrapW c) = planePoint c p d h dist := by
  rw [planePoint, V3.map, wrapW_wrapW, wrapW_wrapW, wrapW_of_fits c hh]

/-- RGND and RCLD write the point to VW[rd] and the distance to DIST, and nothing else (R201, R202). -/
theorem completes_planeHit {i : Instr} {s : State} {rd : RegNo} {p d : V3} {h dist : Int}
    (he : exec i s = .next ((s.writeVW rd (planePoint s.cfg p d h dist)).setDist dist))
    (hh : Fits s.cfg.ww h) (hdist : Fits s.cfg.ww dist) :
    Completes i s fun t =>
      WroteVW rd [.dist] (fun v => IsWrapW s.cfg (p.x + mulWN s.cfg dist d.x) v.x ∧ v.y = h ∧
        IsWrapW s.cfg (p.z + mulWN s.cfg dist d.z) v.z) s t ∧
      t.dist = dist ∧ (planePoint s.cfg p d h dist, dist) = (t.readVW rd, t.dist) := by
  obtain ⟨-, hother, hframe⟩ := wroteVW_writeVW s rd (planePoint s.cfg p d h dist)
  have hpoint : ((s.writeVW rd (planePoint s.cfg p d h dist)).setDist dist).readVW rd
      = planePoint s.cfg p d h dist := by
    rw [State.readVW_setDist, State.readVW_writeVW, if_pos rfl, map_wrapW_planePoint s.cfg p d hh]
  have hlatch : ((s.writeVW rd (planePoint s.cfg p d h dist)).setDist dist).dist = dist :=
    wrapW_of_fits s.cfg hdist
  refine ⟨_, he, ⟨?_, hother, SameOutside.append hframe (sameOutside_setDist _ dist)⟩, hlatch, ?_⟩
  · rw [hpoint]
    exact ⟨isWrapW_wrapW _ _, rfl, isWrapW_wrapW _ _⟩
  · rw [hpoint, hlatch]

theorem fits_qdiv (c : Cfg) (n d : Int) : Fits c.ww (qdiv c n d) := fits_wrapW c _

/-! ### A scan of the screen -/

section Scan

variable {κ α : Type} {obs : Memory → α} {v : α}

/-- When each step of a loop either leaves an observation or sets it to `v`, so does the loop. -/
theorem obs_foldl {f : Memory → κ → Memory} {hit : κ → Prop} [DecidablePred hit] {l : List κ}
    (h : ∀ k ∈ l, ∀ fb, obs (f fb k) = if hit k then v else obs fb) (fb : Memory) :
    obs (l.foldl f fb) = if ∃ k ∈ l, hit k then v else obs fb := by
  induction l generalizing fb with
  | nil => simp
  | cons k l ih =>
    rw [List.foldl_cons, ih fun j hj => h j (List.mem_cons_of_mem _ hj), h k List.mem_cons_self]
    by_cases hk : hit k <;> simp [hk]

/-- The two loops of REND leave `v` where the step at one column and one row sets it and no other step
changes it (R266). -/
theorem obs_scan {f : Memory → Nat → Nat → Memory} {cols rows : List Nat} {x y : Nat} (hx : x ∈ cols)
    (hy : y ∈ rows)
    (h : ∀ u ∈ cols, ∀ w ∈ rows, ∀ fb, obs (f fb u w) = if x = u ∧ y = w then v else obs fb) (fb : Memory) :
    obs (cols.foldl (fun fb u => rows.foldl (fun fb w => f fb u w) fb) fb) = v := by
  have hcol : ∀ u ∈ cols, ∀ fb, obs (rows.foldl (fun fb w => f fb u w) fb)
      = if ∃ w ∈ rows, x = u ∧ y = w then v else obs fb := fun u hu => obs_foldl (h u hu)
  rw [obs_foldl hcol, if_pos ⟨x, hx, y, hy, rfl, rfl⟩]

/-- What the loops run over: the first `n` multiples of the stride. -/
theorem mem_strided {step n k : Nat} : k ∈ strided step n ↔ ∃ i < n, k = step * i := by
  induction n with
  | zero => simp [strided]
  | succ n ih =>
    rw [strided, List.mem_append, ih, List.mem_singleton]
    constructor
    · rintro (⟨i, hi, hk⟩ | hk)
      · exact ⟨i, by omega, hk⟩
      · exact ⟨n, by omega, hk⟩
    · rintro ⟨i, hi, hk⟩
      rcases Nat.lt_succ_iff_lt_or_eq.1 hi with hlt | rfl
      · exact .inl ⟨i, hlt, hk⟩
      · exact .inr hk

end Scan

/-! ### The pixels of one sample (R220, R221, R225) -/

section Block

variable (c : Cfg)

/-- The width of the screen is a whole number of blocks (R5, R6). -/
theorem two_dvd_sw : 2 ∣ c.sw := dvd_pow_self 2 (by have := c.ok.lw_ge; omega)

theorem two_dvd_sh : 2 ∣ c.sh := dvd_pow_self 2 (by have := c.ok.lh_ge; omega)

theorem maskX_of_lt {x : Nat} (h : x < c.sw) : maskX c x = x := Nat.mod_eq_of_lt h

theorem maskY_of_lt {y : Nat} (h : y < c.sh) : maskY c y = y := Nat.mod_eq_of_lt h

theorem getElem_bitByte (b : Bool) {n : Nat} (hn : n < 8) : (bitByte b)[n] = (b && n == 0) :=
  getLsbD_bitByte b n

/-- Bit 2*dy + dx of the packed comparisons is the one of block pixel (dx, dy) (R227). -/
theorem getLsbD_qmask (l : Byte) (dx dy : Fin 2) : (qmask c l).getLsbD (2 * dy + dx) = qbit c l dx dy := by
  fin_cases dx <;> fin_cases dy <;> simp [qmask, getElem_bitByte]

/-- A block on the grid sets its four pixels and leaves every other pixel of the screen (R225). -/
theorem pixelAt_setBlock (fb : Memory) (m : Byte) {i j x y : Nat} (hi : 2 * i + 1 < c.sw) (hj : 2 * j + 1 < c.sh)
    (hx : x < c.sw) :
    pixelAt c (setBlock c fb (2 * i) (2 * j) m) x y
      = if x / 2 * 2 = 2 * i ∧ y / 2 * 2 = 2 * j then m.getLsbD (2 * (y % 2) + x % 2) else pixelAt c fb x y := by
  rw [setBlock, pixelAt_setpix c _ _ _ _ hx, pixelAt_setpix c _ _ _ _ hx, pixelAt_setpix c _ _ _ _ hx,
    pixelAt_setpix c _ _ _ _ hx, maskX_of_lt c hi, maskY_of_lt c hj, maskX_of_lt c (by omega),
    maskY_of_lt c (by omega)]
  by_cases hin : x / 2 * 2 = 2 * i ∧ y / 2 * 2 = 2 * j
  · rw [if_pos hin]
    rcases Nat.mod_two_eq_zero_or_one x with hx0 | hx1 <;> rcases Nat.mod_two_eq_zero_or_one y with hy0 | hy1
    · obtain ⟨rfl, rfl⟩ : x = 2 * i ∧ y = 2 * j := by omega
      simp
    · obtain ⟨rfl, rfl⟩ : x = 2 * i ∧ y = 2 * j + 1 := by omega
      simp
    · obtain ⟨rfl, rfl⟩ : x = 2 * i + 1 ∧ y = 2 * j := by omega
      simp
    · obtain ⟨rfl, rfl⟩ : x = 2 * i + 1 ∧ y = 2 * j + 1 := by omega
      simp
  · rw [if_neg hin, if_neg (by omega), if_neg (by omega), if_neg (by omega), if_neg (by omega)]

end Block

/-! ### The pixels of a frame (R263, R264, R265) -/

section Frame

variable (c : Cfg) (pos : V3) (rot : Mat) (fb : Memory) {x y : Nat} (hx : x < c.sw) (hy : y < c.sh)

include hx hy

/-- In the full strategy the step at (x, y) draws pixel (x, y) and no other. -/
theorem pixelAt_renderFull :
    pixelAt c (renderFull c pos (corners c rot) fb) x y = framePixel c pos rot true x y := by
  refine obs_scan (obs := fun fb => pixelAt c fb x y) (mem_strided.2 ⟨x, hx, (one_mul x).symm⟩)
    (mem_strided.2 ⟨y, hy, (one_mul y).symm⟩) (fun u hu w hw fb => ?_) fb
  obtain ⟨i, hi, rfl⟩ := mem_strided.1 hu
  obtain ⟨j, hj, rfl⟩ := mem_strided.1 hw
  rw [one_mul, one_mul, pixelAt_setpix c _ _ _ _ hx, maskX_of_lt c hi, maskY_of_lt c hj]
  split_ifs with h
  · obtain ⟨rfl, rfl⟩ := h
    rfl
  · rfl

/-- In the coarse strategy the step at the top-left pixel of a block draws the four pixels of the block. -/
theorem pixelAt_renderCoarse :
    pixelAt c (renderCoarse c pos (corners c rot) fb) x y = framePixel c pos rot false x y := by
  have hsw := two_dvd_sw c
  have hsh := two_dvd_sh c
  refine obs_scan (obs := fun fb => pixelAt c fb x y) (x := x / 2 * 2) (y := y / 2 * 2)
    (mem_strided.2 ⟨x / 2, by omega, mul_comm _ _⟩) (mem_strided.2 ⟨y / 2, by omega, mul_comm _ _⟩)
    (fun u hu w hw fb => ?_) fb
  obtain ⟨i, hi, rfl⟩ := mem_strided.1 hu
  obtain ⟨j, hj, rfl⟩ := mem_strided.1 hw
  rw [pixelAt_setBlock c _ _ (by omega) (by omega) hx]
  split_ifs with h
  · obtain ⟨hi0, hj0⟩ := h
    rw [← hi0, ← hj0]
    exact getLsbD_qmask c _ (Fin.ofNat 2 x) (Fin.ofNat 2 y)
  · rfl

end Frame

/-- REND draws every pixel of the screen (R263). -/
theorem completes_rend_framePixel (s : State) :
    Completes .rend s fun t => ∀ x y, x < s.cfg.sw → y < s.cfg.sh →
      pixelAt s.cfg t.fb x y = framePixel s.cfg s.camPos s.camRot (s.rctrl.getLsbD 0) x y := by
  refine ⟨_, rfl, fun x y hx hy => ?_⟩
  change pixelAt s.cfg (if s.rctrl.getLsbD 0 then renderFull s.cfg s.camPos (corners s.cfg s.camRot) s.fb
    else renderCoarse s.cfg s.camPos (corners s.cfg s.camRot) s.fb) x y = _
  cases s.rctrl.getLsbD 0 with
  | true => exact pixelAt_renderFull s.cfg s.camPos s.camRot s.fb hx hy
  | false => exact pixelAt_renderCoarse s.cfg s.camPos s.camRot s.fb hx hy

end Sys2Proof.Machine

/-! ### The obligations -/

namespace Sys2Proof.Proofs

open Sys2Proof.Machine Sys2Proof.Safety Sys2Proof.Claims

/-- Settles O59: a pixel is the level of its sample, and the level of a flat band does not see the position. -/
theorem flatLevels : Obligations.FlatLevels := by
  unfold Obligations.FlatLevels
  intro s x y hx hy c dy shown
  obtain ⟨t, ht, hpixel⟩ := completes_rend_framePixel s
  refine ⟨t, ht, fun hlo hhi => ?_, fun hlo hhi => ?_⟩
  all_goals
    rw [hpixel x y hx hy, framePixel]
    dsimp only [shown, dy, c] at hlo hhi ⊢
    split_ifs at hlo hhi ⊢ with hfull
  · rw [shade_dead (classify_of_dead_band hlo hhi)]
  · rw [shade_dead (classify_of_dead_band hlo hhi)]
  · rw [shade_sky (classify_of_sky_band hlo hhi)]
  · rw [shade_sky (classify_of_sky_band hlo hhi)]

/-- Settles O41: only CLS is written, with the code of the range of the y lane. -/
theorem classifyRay : Obligations.ClassifyRay := by
  unfold Obligations.ClassifyRay
  exact fun ra s => ⟨decode_of_encode_eq rfl rfl, _, rfl, sameOutside_setCls s _,
    fun h => congrArg classCode (classify_of_lt h),
    fun hlo hhi => congrArg classCode (classify_of_dead_band hlo hhi),
    fun h => congrArg classCode (classify_of_gt h),
    fun hlo hhi => congrArg classCode (classify_of_sky_band hlo hhi)⟩

/-- Settles O42: both commands are a plane hit, at height 0 and at the height of the clouds. -/
theorem planeIntersections : Obligations.PlaneIntersections := by
  unfold Obligations.PlaneIntersections
  exact ⟨fun rd ra rb s => ⟨decode_of_encode_eq rfl rfl,
      completes_planeHit rfl (fits_zero _) (fits_qdiv s.cfg _ _)⟩,
    fun rd ra rb s => ⟨decode_of_encode_eq rfl rfl,
      completes_planeHit rfl s.cfg.ok.cloudH_fits (fits_qdiv s.cfg _ _)⟩⟩

end Sys2Proof.Proofs

/-! PROOFS. The family 44_texture.md. A texel index reads the x and z lanes modulo the period of its texture, so two
points that agree modulo it and have one height (`SameTile`) have one texel. A plane hit keeps the relation, so a
camera moved by whole periods sees every ray shaded alike, and draws the same frame. -/

namespace Sys2Proof.Machine

open Sys2Proof.Safety Sys2Proof.Claims

/-! ### Texel indices by formula (R210) -/

/-- The low bits are the residue, for a negative number as well (R10). -/
theorem natCast_lowBits (a : Int) (k : Nat) : (lowBits a k : Int) = a % 2 ^ k := by
  rw [lowBits, pattern, Int.toNat_of_nonneg (Int.emod_nonneg _ (by positivity)), Nat.cast_pow, Nat.cast_ofNat]

theorem natCast_gaddr (c : Cfg) (p : V3) :
    (gaddr c p : Int) = p.z / 2 ^ (c.wu + 4) % 64 * 64 + p.x / 2 ^ (c.wu + 4) % 64 := by
  rw [gaddr, Nat.cast_add, Nat.cast_mul, natCast_lowBits, natCast_lowBits, asr_eq, asr_eq]
  rfl

theorem natCast_caddr (c : Cfg) (p : V3) :
    (caddr c p : Int) = p.z / 2 ^ (c.wu + 4) % 32 * 32 + p.x / 2 ^ (c.wu + 4) % 32 := by
  rw [caddr, Nat.cast_add, Nat.cast_mul, natCast_lowBits, natCast_lowBits, asr_eq, asr_eq]
  rfl

/-- The index is inside GTEX (R5, R210). -/
theorem gaddr_lt (c : Cfg) (p : V3) : gaddr c p < c.gtex.length := by
  have hz := lowBits_lt (asr p.z c.texSh) 6
  have hx := lowBits_lt (asr p.x c.texSh) 6
  rw [c.ok.gtex_length, gaddr]
  omega

/-- The index is inside CTEX (R5, R210). -/
theorem caddr_lt (c : Cfg) (p : V3) : caddr c p < c.ctex.length := by
  have hz := lowBits_lt (asr p.z c.texSh) 5
  have hx := lowBits_lt (asr p.x c.texSh) 5
  rw [c.ok.ctex_length, caddr]
  omega

/-! ### Points that agree modulo a period (R213) -/

/-- Two points of one height whose x and z lanes agree modulo 2^n. -/
def SameTile (n : Nat) (p q : V3) : Prop :=
  p.x ≡ q.x [ZMOD 2 ^ n] ∧ p.y = q.y ∧ p.z ≡ q.z [ZMOD 2 ^ n]

/-- Points that agree modulo a period agree modulo a divisor of it. -/
theorem SameTile.mono {m n : Nat} {p q : V3} (h : SameTile n p q) (hmn : m ≤ n) : SameTile m p q := by
  obtain ⟨hx, hy, hz⟩ := h
  exact ⟨hx.of_dvd (pow_dvd_pow 2 hmn), hy, hz.of_dvd (pow_dvd_pow 2 hmn)⟩

theorem SameTile.trans {n : Nat} {p q r : V3} (h : SameTile n p q) (k : SameTile n q r) : SameTile n p r := by
  obtain ⟨hx, hy, hz⟩ := h
  obtain ⟨kx, ky, kz⟩ := k
  exact ⟨hx.trans kx, hy.trans ky, hz.trans kz⟩

/-- The wrap of a wide lane keeps it modulo a period that fits the lane (R9). -/
theorem wrapW_modEq (c : Cfg) {n : Nat} (hn : n ≤ c.ww) (z : Int) : wrapW c z ≡ z [ZMOD 2 ^ n] :=
  (Int.modEq_iff_dvd.2 ((pow_dvd_pow 2 hn).trans (dvd_wrap_sub c.ww z))).symm

/-- The k bits above bit s of a lane depend on it modulo 2^(s + k) only (R210). -/
theorem lowBits_asr_congr {s k : Nat} {a b : Int} (h : a ≡ b [ZMOD 2 ^ (s + k)]) :
    lowBits (asr a s) k = lowBits (asr b s) k := by
  obtain ⟨m, rfl⟩ := Int.modEq_iff_add_fac.1 h.symm
  have hquot : (b + 2 ^ (s + k) * m) / 2 ^ s = b / 2 ^ s + 2 ^ k * m := by
    rw [pow_add, mul_assoc, Int.add_mul_ediv_left _ _ (by positivity)]
  apply lowBits_congr
  rw [asr_eq, asr_eq, hquot, add_sub_cancel_left]
  exact dvd_mul_right _ _

theorem gaddr_congr {c : Cfg} {p q : V3} (h : SameTile (c.texSh + 6) p q) : gaddr c p = gaddr c q := by
  obtain ⟨hx, -, hz⟩ := h
  rw [gaddr, gaddr, lowBits_asr_congr hx, lowBits_asr_congr hz]

theorem caddr_congr {c : Cfg} {p q : V3} (h : SameTile (c.texSh + 5) p q) : caddr c p = caddr c q := by
  obtain ⟨hx, -, hz⟩ := h
  rw [caddr, caddr, lowBits_asr_congr hx, lowBits_asr_congr hz]

/-- A move by whole periods. -/
theorem sameTile_move (n : Nat) (p : V3) (i j : Int) :
    SameTile n ⟨p.x + i * 2 ^ n, p.y, p.z + j * 2 ^ n⟩ p :=
  ⟨Int.add_mul_modulus_modEq_iff.2 rfl, rfl, Int.add_mul_modulus_modEq_iff.2 rfl⟩

/-- The wrap of the x and z lanes. -/
theorem sameTile_wrapW (c : Cfg) {n : Nat} (hn : n ≤ c.ww) (p : V3) :
    SameTile n ⟨wrapW c p.x, p.y, wrapW c p.z⟩ p :=
  ⟨wrapW_modEq c hn _, rfl, wrapW_modEq c hn _⟩

/-! ### What a camera moved by whole periods sees (R204, R205, R261) -/

section Moved

variable {c : Cfg} {n : Nat} {p q : V3}

/-- A ray of one direction and length ends in the same place of the tile (R204, R205). -/
theorem sameTile_planePoint (hn : n ≤ c.ww) (h : SameTile n p q) (d : V3) (height dist : Int) :
    SameTile n (planePoint c p d height dist) (planePoint c q d height dist) := by
  obtain ⟨hx, -, hz⟩ := h
  have hlane : ∀ {a b : Int}, a ≡ b [ZMOD 2 ^ n] → ∀ v, wrapW c (a + v) ≡ wrapW c (b + v) [ZMOD 2 ^ n] :=
    fun hab v => (wrapW_modEq c hn _).trans ((hab.add_right v).trans (wrapW_modEq c hn _).symm)
  exact ⟨hlane hx _, rfl, hlane hz _⟩

/-- A ray to the ground ends in the same place of the tile, after a length that the height and the direction set
(R204). -/
theorem groundHit_congr (hn : n ≤ c.ww) (h : SameTile n p q) (d : V3) :
    SameTile n (groundHit c p d).1 (groundHit c q d).1 ∧ (groundHit c p d).2 = (groundHit c q d).2 := by
  have ⟨_, hy, _⟩ := h
  rw [groundHit, groundHit, hy]
  exact ⟨sameTile_planePoint hn h d 0 _, rfl⟩

/-- So does a ray to the clouds (R205). -/
theorem cloudHit_congr (hn : n ≤ c.ww) (h : SameTile n p q) (d : V3) :
    SameTile n (cloudHit c p d).1 (cloudHit c q d).1 ∧ (cloudHit c p d).2 = (cloudHit c q d).2 := by
  have ⟨_, hy, _⟩ := h
  rw [cloudHit, cloudHit, hy]
  exact ⟨sameTile_planePoint hn h d c.cloudH _, rfl⟩

/-- Every ray is shaded alike: the same texel at the same distance, or no plane at all (R261). -/
theorem shade_congr (hn : c.texSh + 6 ≤ c.ww) (h : SameTile (c.texSh + 6) p q) (d : V3) :
    shade c p d = shade c q d := by
  unfold shade
  cases classify c d.y with
  | ground =>
    obtain ⟨hpoint, hdist⟩ := groundHit_congr hn h d
    simp only [gaddr_congr hpoint, hdist]
  | dead => rfl
  | cloud =>
    obtain ⟨hpoint, hdist⟩ := cloudHit_congr hn h d
    simp only [caddr_congr (c := c) (hpoint.mono (Nat.le_succ _)), hdist]
  | sky => rfl

/-- REND uses the position to shade rays only (R264, R265). -/
theorem renderFull_congr (h : ∀ d, shade c p d = shade c q d) (k : CornerRays) (fb : Memory) :
    renderFull c p k fb = renderFull c q k fb := by
  simp only [renderFull, h]

theorem renderCoarse_congr (h : ∀ d, shade c p d = shade c q d) (k : CornerRays) (fb : Memory) :
    renderCoarse c p k fb = renderCoarse c q k fb := by
  simp only [renderCoarse, h]

end Moved

end Sys2Proof.Machine

/-! ### The obligations -/

namespace Sys2Proof.Proofs

open Sys2Proof.Machine Sys2Proof.Safety Sys2Proof.Claims

/-- Settles O44: a move by whole periods and a wrap both stay on the tile. -/
theorem texturePeriodicity : Obligations.TexturePeriodicity := by
  unfold Obligations.TexturePeriodicity
  exact fun c p i j => ⟨gaddr_congr (sameTile_move _ p i j), caddr_congr (sameTile_move _ p i j),
    fun hw => ⟨gaddr_congr (sameTile_wrapW c hw p), caddr_congr (sameTile_wrapW c (by omega) p)⟩⟩

/-- Settles O58: the moved camera shades every ray alike, so either strategy draws the same frame. -/
theorem frameIsPeriodic : Obligations.FrameIsPeriodic := by
  unfold Obligations.FrameIsPeriodic
  intro s i j hw
  have hshade := shade_congr hw ((sameTile_wrapW s.cfg hw _).trans (sameTile_move _ s.camPos i j))
  exact ⟨_, rfl, _, rfl, fun a => congrArg (fun fb : Memory => fb.read a)
    (if_congr Iff.rfl (renderFull_congr hshade _ _) (renderCoarse_congr hshade _ _))⟩

/-- Settles O43: the index is inside the texture, so the read is the entry itself. -/
theorem textureSamples : Obligations.TextureSamples := by
  unfold Obligations.TextureSamples
  exact ⟨fun rd ra s => ⟨decode_of_encode_eq rfl rfl, _, gaddr_lt s.cfg _, rfl, natCast_gaddr s.cfg _,
      completes_writeB rfl (List.getD_eq_getElem _ _ (gaddr_lt s.cfg _))⟩,
    fun rd ra s => ⟨decode_of_encode_eq rfl rfl, _, caddr_lt s.cfg _, rfl, natCast_caddr s.cfg _,
      completes_writeB rfl (List.getD_eq_getElem _ _ (caddr_lt s.cfg _))⟩⟩

end Sys2Proof.Proofs

/-! PROOFS. The family 45_dither_fb.md. The quantizers pack comparisons, so their results are read bit by bit; the
framebuffer commands replace FB alone. A block is a loop of pixel writes over four offsets that mask to four different
pixels, so each of the four is set by its own step and no other step changes it. -/

namespace Sys2Proof.Machine

open Sys2Proof.Safety Sys2Proof.Claims

/-! ### The quantizers (R221, R227, R228) -/

section Quantizer

variable (c : Cfg) (l : Byte)

theorem qbit_iff (dx dy : Fin 2) : qbit c l dx dy = true ↔ threshold c dx dy < (l.toNat : Int) :=
  decide_eq_true_iff

/-- Four packed comparisons leave bits 7:4 clear (R227). -/
theorem qmask_lt : (qmask c l).toNat < 16 := by
  have hpacked : ∀ b0 b1 b2 b3 : Bool,
      (bitByte b0 ||| bitByte b1 <<< 1 ||| bitByte b2 <<< 2 ||| bitByte b3 <<< 3).toNat < 16 := by decide
  exact hpacked _ _ _ _

/-- The byte of one comparison, the threshold chosen by the parity (R223, R228). -/
theorem bitByte_fbit (par : BitVec 1) :
    bitByte (fbit c l (par == 1#1))
      = if (if par = 1#1 then c.fth1 else c.fth0) < (l.toNat : Int) then 1#8 else 0#8 := by
  simp only [bitByte, fbit, decide_eq_true_eq, beq_iff_eq]

theorem bitByte_beq_one (b : Bool) : (bitByte b == 1#8) = b := by cases b <;> rfl

end Quantizer

/-! ### Writes to the framebuffer -/

/-- A command that replaces FB completes with what is known of the new FB. -/
theorem completes_fb {i : Instr} {s : State} {post : State → Prop} (fb : Memory)
    (he : exec i s = .next { s with fb := fb }) (hp : post { s with fb := fb }) :
    Completes i s (WroteFB post s) := ⟨_, he, hp, sameOutside_fb s fb⟩

/-- Bit by bit, a pixel write changes the bit of the pixel in its byte (R220). -/
theorem getLsbD_read_setpix (c : Cfg) (fb : Memory) (x y : Nat) (b : Bool) {k : Nat} (hk : k < 8) :
    ((setpix c fb x y b).read (pixIndex c x y)).getLsbD k
      = if k = pixBit c y then b else (fb.read (pixIndex c x y)).getLsbD k := by
  rw [read_setpix, if_pos rfl]
  exact getLsbD_putBit _ (Nat.mod_lt _ (by decide)) hk b

theorem read_setpix_of_ne (c : Cfg) (fb : Memory) (x y : Nat) (b : Bool) {a : Nat} (h : a ≠ pixIndex c x y) :
    (setpix c fb x y b).read a = fb.read a := by
  rw [read_setpix, if_neg h]

/-! ### A block anywhere on the screen (R225) -/

/-- The offsets (dx, dy) of the pixels of a block, dy outer, dx inner. -/
def blockOffsets : List (Fin 2 × Fin 2) := [(0, 0), (1, 0), (0, 1), (1, 1)]

theorem mem_blockOffsets (d : Fin 2 × Fin 2) : d ∈ blockOffsets := by
  revert d; decide

section AnyBlock

variable (c : Cfg) (fb : Memory) (x y : Nat) (m : Byte)

/-- FBBLK is a loop of pixel writes, offset (dx, dy) with bit 2*dy + dx. -/
theorem setBlock_eq_foldl : setBlock c fb x y m
    = blockOffsets.foldl (fun fb d => setpix c fb (x + d.1) (y + d.2) (m.getLsbD (2 * d.2 + d.1))) fb := rfl

/-- Two offsets within a block stay different modulo a size that holds a block. -/
theorem add_mod_eq_add_mod_iff {n : Nat} (hn : 2 ≤ n) (z : Nat) (d e : Fin 2) :
    (z + d) % n = (z + e) % n ↔ d = e := by
  refine ⟨fun h => Fin.ext ?_, fun h => h ▸ rfl⟩
  exact (Nat.ModEq.add_left_cancel' z h).eq_of_lt_of_lt (by omega) (by omega)

/-- The columns of a block mask to different columns of the screen. -/
theorem maskX_add_eq_iff (d e : Fin 2) : maskX c (x + d) = maskX c (x + e) ↔ d = e :=
  add_mod_eq_add_mod_iff (Nat.le_of_dvd (sw_pos c) (two_dvd_sw c)) x d e

/-- The rows of a block mask to different rows of the screen. -/
theorem maskY_add_eq_iff (d e : Fin 2) : maskY c (y + d) = maskY c (y + e) ↔ d = e :=
  add_mod_eq_add_mod_iff (Nat.le_of_dvd (sh_pos c) (two_dvd_sh c)) y d e

/-- Each pixel of a block takes its own bit. -/
theorem pixelAt_setBlock_offset (dx dy : Fin 2) :
    pixelAt c (setBlock c fb x y m) (maskX c (x + dx)) (maskY c (y + dy)) = m.getLsbD (2 * dy + dx) := by
  have hstep (d : Fin 2 × Fin 2) (fb : Memory) :
      pixelAt c (setpix c fb (x + d.1) (y + d.2) (m.getLsbD (2 * d.2 + d.1))) (maskX c (x + dx)) (maskY c (y + dy))
        = if dx = d.1 ∧ dy = d.2 then m.getLsbD (2 * dy + dx)
          else pixelAt c fb (maskX c (x + dx)) (maskY c (y + dy)) := by
    simp only [pixelAt_setpix c _ _ _ _ (maskX_lt c _), maskX_add_eq_iff, maskY_add_eq_iff]
    split_ifs with h
    · rw [h.1, h.2]
    · rfl
  rw [setBlock_eq_foldl, obs_foldl (obs := fun fb => pixelAt c fb (maskX c (x + dx)) (maskY c (y + dy)))
    (fun d _ => hstep d), if_pos ⟨_, mem_blockOffsets (dx, dy), rfl, rfl⟩]

/-- What every pixel write of a block leaves, the block leaves. -/
theorem obs_setBlock {α : Type} {obs : Memory → α}
    (h : ∀ (dx dy : Fin 2) (fb : Memory) (b : Bool), obs (setpix c fb (x + dx) (y + dy) b) = obs fb) :
    obs (setBlock c fb x y m) = obs fb :=
  (h 1 1 _ _).trans <| (h 0 1 _ _).trans <| (h 1 0 _ _).trans <| h 0 0 _ _

/-- Every other pixel of the screen stays. -/
theorem pixelAt_setBlock_of_ne {u v : Nat} (hu : u < c.sw)
    (h : ∀ dx dy : Fin 2, ¬ (u = maskX c (x + dx) ∧ v = maskY c (y + dy))) :
    pixelAt c (setBlock c fb x y m) u v = pixelAt c fb u v :=
  obs_setBlock (obs := fun fb => pixelAt c fb u v) c fb x y m fun dx dy fb b => by
    rw [pixelAt_setpix c fb _ _ b hu, if_neg (h dx dy)]

/-- Every other byte stays. -/
theorem read_setBlock_of_ne {a : Nat} (h : ∀ dx dy : Fin 2, a ≠ pixIndex c (x + dx) (y + dy)) :
    (setBlock c fb x y m).read a = fb.read a :=
  obs_setBlock (obs := fun fb => fb.read a) c fb x y m fun dx dy fb b => read_setpix_of_ne c fb _ _ b (h dx dy)

end AnyBlock

end Sys2Proof.Machine

/-! ### The obligations -/

namespace Sys2Proof.Proofs

open Sys2Proof.Machine Sys2Proof.Safety Sys2Proof.Claims

/-- Settles O47: the four pixels of a block are different, so each keeps the bit that its own step wrote. -/
theorem blockWrite : Obligations.BlockWrite := by
  unfold Obligations.BlockWrite
  exact fun ra x y s => ⟨decode_of_encode_eq rfl rfl, completes_fb _ rfl
    ⟨fun dx dy => pixelAt_setBlock_offset s.cfg s.fb x.toNat y.toNat _ dx dy,
      fun _ _ hu _ h => pixelAt_setBlock_of_ne s.cfg s.fb x.toNat y.toNat _ hu h,
      fun _ h => read_setBlock_of_ne s.cfg s.fb x.toNat y.toNat _ h⟩⟩

/-- Settles O45: each bit of the result is one comparison. -/
theorem quantizers : Obligations.Quantizers := by
  unfold Obligations.Quantizers
  refine ⟨fun rd ra s => ⟨decode_of_encode_eq rfl rfl, completes_writeB rfl ⟨qmask_lt _ _, fun dx dy => ?_⟩⟩,
    fun rd ra par s => ⟨decode_of_encode_eq rfl rfl, completes_writeB rfl ⟨bitByte_fbit _ _ par, ?_⟩⟩⟩
  · rw [getLsbD_qmask]
    exact ⟨qbit_iff _ _ dx dy, rfl⟩
  · rw [bitByte_beq_one]

/-- Settles O46: the pixel write changes one bit of the byte at its index, which is inside FB. -/
theorem pixelWrite : Obligations.PixelWrite := by
  unfold Obligations.PixelWrite
  exact fun ra x y s => ⟨decode_of_encode_eq rfl rfl, rfl, pixIndex_lt _ _ _, completes_fb _ rfl
    ⟨fun _ hk => getLsbD_read_setpix s.cfg s.fb _ _ _ hk, fun _ h => read_setpix_of_ne s.cfg s.fb _ _ _ h⟩⟩

/-- Settles O48: the write reads back at its own index and nowhere else. -/
theorem pageStore : Obligations.PageStore := by
  unfold Obligations.PageStore
  exact fun ra x page s => ⟨decode_of_encode_eq rfl rfl, rfl, pageIndex_lt _ _ _, completes_fb _ rfl
    ⟨(State.readFB_writeFB s _ _ _).trans (if_pos rfl),
      fun _ h => (State.readFB_writeFB s _ _ _).trans (if_neg h)⟩⟩

end Sys2Proof.Proofs

/-! PROOFS. The family 46_camera.md. A tick is named as a state (`State.ticked`) whose parts are said once; its
properties follow from what a count and a turn do to an angle. The sequence of R249 is cut where the steps of the tick
meet: it builds the rotation, moves the position by row 2 of it, and clamps the altitude. -/

namespace Sys2Proof.Machine

open Sys2Proof.Safety Sys2Proof.Claims

/-! ### What a tick does to an angle (R242 steps 1 and 2) -/

theorem bitInt_eq (b : Bool) : bitInt b = (bit b : Int) := by cases b <;> rfl

theorem bit_le_one (b : Bool) : bit b ≤ 1 := by cases b <;> decide

/-- The count of an angle up or down by one, modulo 256 (R242 step 1). -/
theorem toNat_ofInt_count (a : Byte) (up down : Bool) :
    (BitVec.ofInt 8 ((a.toNat : Int) + bitInt up - bitInt down)).toNat
      = (a.toNat + 256 + bit up - bit down) % 256 := by
  have hdown := bit_le_one down
  rw [BitVec.toNat_ofInt, bitInt_eq, bitInt_eq]
  omega

/-- A signed count is added modulo 256. -/
theorem ofInt_toNat_add (a : Byte) (k : Int) :
    BitVec.ofInt 8 ((a.toNat : Int) + k) = a + BitVec.ofInt 8 k := by
  rw [BitVec.ofInt_add, BitVec.ofInt_natCast, BitVec.ofNat_toNat, BitVec.setWidth_eq]

theorem tickPitch_eq (mask : BitVec 4) (pitch : Byte) :
    tickPitch mask pitch = pitch + BitVec.ofInt 8 (bitInt (mask.getLsbD 1) - bitInt (mask.getLsbD 0)) := by
  rw [tickPitch, add_sub_assoc, ofInt_toNat_add]

theorem tickRoll_eq (mask : BitVec 4) (roll : Byte) :
    tickRoll mask roll = roll + BitVec.ofInt 8 (bitInt (mask.getLsbD 2) - bitInt (mask.getLsbD 3)) := by
  rw [tickRoll, add_sub_assoc, ofInt_toNat_add]

theorem tickYaw_eq (roll yaw : Byte) : tickYaw roll yaw = yaw + BitVec.ofInt 8 (turn roll) :=
  ofInt_toNat_add yaw (turn roll)

/-- From a roll of 24 up, the turn is the greatest one (R248). -/
theorem turn_of_ge {roll : Byte} (h : 24 ≤ roll.toInt) : turn roll = 3 := by
  rw [turn, clamp, tdiv, signed8, Int.tdiv_eq_ediv_of_nonneg (by omega)]
  omega

/-- From a roll of -24 down, the turn is the least one (R248). -/
theorem turn_of_le {roll : Byte} (h : roll.toInt ≤ -24) : turn roll = -3 := by
  rw [turn, clamp, tdiv, signed8, ← neg_neg roll.toInt, Int.neg_tdiv, Int.tdiv_eq_ediv_of_nonneg (by omega)]
  omega

/-- A roll of less than 8 either way has the truncated quotient 0 (R248). -/
theorem turn_of_small {roll : Byte} (hlo : -7 ≤ roll.toInt) (hhi : roll.toInt ≤ 7) : turn roll = 0 := by
  rw [turn, clamp, tdiv, signed8, Int.tdiv_eq_ediv, Int.sign_eq_one_of_pos (by decide)]
  split_ifs <;> omega

/-! ### The state after a tick (R242) -/

/-- A matrix of narrow values is written as it is. -/
theorem map_wrapN_of_fits {c : Cfg} {m : Mat} (h : ∀ i j, Fits c.nw (m.get i j)) : m.map (wrapN c) = m :=
  Mat.ext_get fun i j => by rw [Mat.get_map, wrapN_of_fits c (h i j)]

theorem map_wrapN_mmul (c : Cfg) (a b : Mat) : (mmul c a b).map (wrapN c) = mmul c a b :=
  map_wrapN_of_fits (fits_mmul c a b)

theorem map_wrapN_mtrans_mmul (c : Cfg) (a b : Mat) :
    (mtrans (mmul c a b)).map (wrapN c) = mtrans (mmul c a b) :=
  map_wrapN_of_fits fun i j => get_mtrans (mmul c a b) i j ▸ fits_mmul c a b j i

theorem map_wrapN_rotX (c : Cfg) (t : Byte) : (rotX c t).map (wrapN c) = rotX c t :=
  map_wrapN_of_fits (fits_get_of_matFits (fits_rotX c t))

theorem map_wrapN_rotY (c : Cfg) (t : Byte) : (rotY c t).map (wrapN c) = rotY c t :=
  map_wrapN_of_fits (fits_get_of_matFits (fits_rotY c t))

theorem map_wrapN_rotZ (c : Cfg) (t : Byte) : (rotZ c t).map (wrapN c) = rotZ c t :=
  map_wrapN_of_fits (fits_get_of_matFits (fits_rotZ c t))

/-- Row 2 of the rotation is a narrow vector (R187, R241). -/
theorem map_wrapN_forward_camrot (c : Cfg) (p r y : Byte) :
    (forward (camrot c p r y)).map (wrapN c) = forward (camrot c p r y) :=
  V3.ext_get fun l => by
    rw [V3.get_map, get_forward]
    exact wrapN_of_fits c (fits_mmul c _ _ 2 l)

section Ticked

variable (mask : BitVec 4) (s : State)

/-- The state that CAMTICK answers. -/
def State.ticked : State :=
  let p := tickPitch mask s.pitch
  let r := tickRoll mask s.roll
  let y := tickYaw r s.yaw
  let m := camrot s.cfg p r y
  ((s.writeAngles p r y).writeCamRot m).writeCamPos (tickPos s.cfg s.camPos (forward m))

theorem exec_camtick : exec (.camtick mask) s = .next (s.ticked mask) := rfl

theorem ticked_of_exec_camtick {mask : BitVec 4} {s t : State} (h : exec (.camtick mask) s = .next t) :
    t = s.ticked mask := (Host.Outcome.next.inj h).symm

theorem State.ticked_pitch : (s.ticked mask).pitch = tickPitch mask s.pitch := rfl

theorem State.ticked_roll : (s.ticked mask).roll = tickRoll mask s.roll := rfl

theorem State.ticked_yaw : (s.ticked mask).yaw = tickYaw (s.ticked mask).roll s.yaw := rfl

theorem State.ticked_camRot : (s.ticked mask).camRot
    = camrot s.cfg (s.ticked mask).pitch (s.ticked mask).roll (s.ticked mask).yaw :=
  map_wrapN_mmul s.cfg _ _

theorem State.ticked_camInv : (s.ticked mask).camInv = mtrans (s.ticked mask).camRot := by
  rw [State.ticked_camRot]
  exact map_wrapN_mtrans_mmul s.cfg _ _

theorem State.ticked_camPos : (s.ticked mask).camPos
    = (tickPos s.cfg s.camPos (forward (s.ticked mask).camRot)).map (wrapW s.cfg) := by
  rw [State.ticked_camRot]
  rfl

theorem sameOutside_ticked :
    SameOutside [.pitch, .roll, .yaw, .camRot, .camInv, .camPos] s (s.ticked mask) :=
  (execCamtick_writes mask s).sameOutside

/-- A clamp to ordered bounds lies between them. -/
theorem clamp_between (v : Int) {lo hi : Int} (h : lo ≤ hi) : lo ≤ clamp v lo hi ∧ clamp v lo hi ≤ hi := by
  rw [clamp]
  omega

/-- The write keeps an altitude between its bounds, where the upper one is a wide value (assumption log 10). -/
theorem wrapW_clamp_between (c : Cfg) (v : Int) (h : c.altMax < 2 ^ (c.ww - 1)) :
    c.altMin ≤ wrapW c (clamp v c.altMin c.altMax) ∧ wrapW c (clamp v c.altMin c.altMax) ≤ c.altMax := by
  have hmin : 0 < c.altMin := by rw [Cfg.altMin]; positivity
  have hle : c.altMin ≤ c.altMax := by rw [Cfg.altMax, ← Cfg.altMin]; omega
  obtain ⟨hlo, hhi⟩ := clamp_between v hle
  rw [wrapW_of_fits c ⟨by omega, by omega⟩]
  exact ⟨hlo, hhi⟩

/-- The altitude is clamped after its wrap, so it is within its bounds after every tick (R242, R248). -/
theorem ticked_altitude (h : s.cfg.altMax < 2 ^ (s.cfg.ww - 1)) :
    s.cfg.altMin ≤ (s.ticked mask).camPos.y ∧ (s.ticked mask).camPos.y ≤ s.cfg.altMax := by
  rw [State.ticked_camPos]
  exact wrapW_clamp_between s.cfg _ h

end Ticked

/-! ### Runs of commands -/

section Runs

variable {i : Instr} {is js : List Instr} {s t : State} {post : State → Prop}

theorem runCompletes_nil (h : post s) : RunCompletes [] s post := ⟨s, rfl, h⟩

theorem runCompletes_cons (he : exec i s = .next t) (h : RunCompletes is t post) :
    RunCompletes (i :: is) s post := by
  obtain ⟨u, hu, hpost⟩ := h
  refine ⟨u, ?_, hpost⟩
  rw [runCommands, he]
  exact hu

theorem runCompletes_append (h : RunCompletes is s fun t => RunCompletes js t post) :
    RunCompletes (is ++ js) s post := by
  induction is generalizing s with
  | nil =>
    obtain ⟨t, ht, h⟩ := h
    obtain rfl : s = t := Host.Outcome.next.inj ht
    exact h
  | cons i is ih =>
    obtain ⟨t, ht, -⟩ := exec_answers i s
    obtain ⟨u, hu, h⟩ := h
    rw [runCommands, ht] at hu
    exact runCompletes_cons ht (ih ⟨u, hu, h⟩)

/-- What follows from what holds of the last state holds of it. -/
theorem runCompletes_mono {post' : State → Prop} (h : RunCompletes is s post) (hp : ∀ t, post t → post' t) :
    RunCompletes is s post' := by
  obtain ⟨t, ht, hpost⟩ := h
  exact ⟨t, ht, hp t hpost⟩

/-- Ticks of "up" take their number from the pitch. -/
theorem runCompletes_up (n : Nat) (s : State) :
    RunCompletes (List.replicate n (.camtick 1#4)) s fun t => t.pitch = s.pitch - BitVec.ofNat 8 n := by
  induction n generalizing s with
  | zero => exact runCompletes_nil (BitVec.sub_zero _).symm
  | succ n ih =>
    refine runCompletes_cons (exec_camtick 1#4 s) (runCompletes_mono (ih _) fun t ht => ?_)
    have hfirst : (s.ticked 1#4).pitch = s.pitch - 1#8 := by
      rw [State.ticked_pitch, tickPitch_eq]
      exact (BitVec.sub_eq_add_neg s.pitch 1#8).symm
    rw [ht, hfirst, sub_sub, ← BitVec.ofNat_add, add_comm]

end Runs

/-! ### A tick by primitive commands (R249) -/

/-- Steps 3 and 4 of a tick: the rotation of the angles in B0, B1, B2, and its transpose. -/
def rotateByPrimitives : List Instr :=
  [.negb 3 0, .negb 4 2, .mrotz 0 1, .mrotx 1 3, .mroty 2 4, .mmul 3 0 1, .mmul 3 3 2, .mtrans 4 3]

/-- Step 5: the position of the camera moved by row 2 of M3. -/
def moveByPrimitives : List Instr := [.mfwd 0 3, .vcvtnw 1 0, .vcam 0, .vaddw 0 0 1]

/-- Step 6: the y lane of VW0 clamped to W1 and W2. -/
def clampByPrimitives : List Instr := [.vextw 0 0 1, .clampw 0 0 1 2, .vinsw 0 0 1]

theorem tickByPrimitives_eq :
    tickByPrimitives = rotateByPrimitives ++ (moveByPrimitives ++ clampByPrimitives) := rfl

/-- A position moved by a narrow vector, each lane wrapped (R242 step 5). -/
def movedPos (c : Cfg) (p f : V3) : V3 := (V3.zipWith (· + ·) p (f.map (cvtNW c))).map (wrapW c)

/-- The position that a tick writes is the moved one, with the altitude clamped (R242 step 6). -/
theorem map_wrapW_tickPos (c : Cfg) (p f : V3) :
    (tickPos c p f).map (wrapW c)
      = (movedPos c p f).set 1 (wrapW c (clamp (movedPos c p f).y c.altMin c.altMax)) := by
  simp only [tickPos, movedPos, V3.map, V3.zipWith, V3.set, wrapW_wrapW]

theorem wrapW_movedPos_y (c : Cfg) (p f : V3) : wrapW c (movedPos c p f).y = (movedPos c p f).y :=
  wrapW_wrapW c _

/-- Wrapping a term before the addition does not change the wrapped sum (R9). -/
theorem wrapW_add_left (c : Cfg) (a b : Int) : wrapW c (wrapW c a + b) = wrapW c (a + b) :=
  Int.bmod_add_bmod

theorem wrapW_cvtNW (c : Cfg) (v : Int) : wrapW c (cvtNW c v) = cvtNW c v := wrapW_wrapW c _

variable (s : State)

theorem runCompletes_rotate :
    RunCompletes rotateByPrimitives s fun t =>
      t.readM 3 = camrot s.cfg (s.readB 0) (s.readB 1) (s.readB 2) ∧ t.readM 4 = mtrans (t.readM 3) ∧
      t.cfg = s.cfg ∧ t.camPos = s.camPos ∧ ∀ q, t.readW q = s.readW q := by
  refine ⟨_, rfl, ?_, ?_, rfl, rfl, fun _ => rfl⟩
  all_goals simp [State.readM_writeM, State.readB_writeB, camrot, map_wrapN_rotX, map_wrapN_rotY, map_wrapN_rotZ,
    map_wrapN_mmul, map_wrapN_mtrans_mmul]

theorem runCompletes_move :
    RunCompletes moveByPrimitives s fun t =>
      t.readVW 0 = movedPos s.cfg s.camPos ((forward (s.readM 3)).map (wrapN s.cfg)) ∧
      t.cfg = s.cfg ∧ (∀ q, t.readW q = s.readW q) ∧ ∀ q, t.readM q = s.readM q := by
  refine ⟨_, rfl, ?_, rfl, fun _ => rfl, fun _ => rfl⟩
  simp [State.readVW_writeVW, State.readVN_writeVN, movedPos, V3.map, V3.zipWith, wrapW_add_left, wrapW_cvtNW]

theorem runCompletes_clamp :
    RunCompletes clampByPrimitives s fun t =>
      t.readVW 0 = (s.readVW 0).set 1
        (wrapW s.cfg (clamp (wrapW s.cfg (s.readVW 0).y) (s.readW 1) (s.readW 2))) ∧
      ∀ q, t.readM q = s.readM q := by
  refine ⟨_, rfl, ?_, fun _ => rfl⟩
  simp [State.readVW_writeVWLane, State.readW_writeW, V3.get]

/-- The three parts in a row, with the altitude bounds in W1 and W2. -/
theorem runCompletes_tickByPrimitives {s : State} (hlo : s.readW 1 = s.cfg.altMin)
    (hhi : s.readW 2 = s.cfg.altMax) :
    RunCompletes tickByPrimitives s fun u =>
      u.readM 3 = camrot s.cfg (s.readB 0) (s.readB 1) (s.readB 2) ∧ u.readM 4 = mtrans (u.readM 3) ∧
      u.readVW 0 = (tickPos s.cfg s.camPos (forward (u.readM 3))).map (wrapW s.cfg) := by
  rw [tickByPrimitives_eq]
  refine runCompletes_append (runCompletes_mono (runCompletes_rotate s) fun t ⟨hrot, hinv, hcfg, hpos, hw⟩ => ?_)
  refine runCompletes_append (runCompletes_mono (runCompletes_move t) fun t' ⟨hmoved, hcfg', hw', hm'⟩ => ?_)
  refine runCompletes_mono (runCompletes_clamp t') fun u ⟨hclamped, hm⟩ => ?_
  have hm3 : u.readM 3 = camrot s.cfg (s.readB 0) (s.readB 1) (s.readB 2) := by rw [hm, hm', hrot]
  have hm4 : u.readM 4 = mtrans (u.readM 3) := by rw [hm, hm, hm', hm', hinv]
  have hmoved3 : t'.readVW 0 = movedPos s.cfg s.camPos (forward (u.readM 3)) := by
    rw [hmoved, hcfg, hpos, hrot, hm3, map_wrapN_forward_camrot]
  refine ⟨hm3, hm4, ?_⟩
  rw [hclamped, hmoved3, hw', hw', hw, hw, hlo, hhi, hcfg', hcfg, wrapW_movedPos_y, map_wrapW_tickPos]

end Sys2Proof.Machine

/-! ### The obligations -/

namespace Sys2Proof.Proofs

open Sys2Proof.Machine Sys2Proof.Safety Sys2Proof.Claims

/-- Settles O50: the parts of the state after a tick, each by its step of R242. -/
theorem cameraTick : Obligations.CameraTick := by
  unfold Obligations.CameraTick
  intro mask s c
  refine ⟨decode_of_encode_eq rfl rfl, s.ticked mask, exec_camtick mask s, toNat_ofInt_count _ _ _,
    toNat_ofInt_count _ _ _, ?_, State.ticked_camRot mask s, fun i j => ?_, ?_, ?_, ?_, sameOutside_ticked mask s⟩
  · rw [State.ticked_yaw, tickYaw, BitVec.toNat_ofInt, Int.toNat_of_nonneg (Int.emod_nonneg _ (by decide))]
    rfl
  · rw [State.ticked_camInv, get_mtrans]
  all_goals rw [State.ticked_camPos]
  · exact isWrapW_of_wrapW (isWrapW_wrapW c _)
  · exact isWrapW_wrapW c _
  · exact isWrapW_of_wrapW (isWrapW_wrapW c _)

/-- Settles O52: the yaw gets the turn of the new roll, and counts of 0 and of 256 hold an angle. -/
theorem cameraTickProperties : Obligations.CameraTickProperties := by
  unfold Obligations.CameraTickProperties
  refine ⟨fun mask s t h => ?_, fun s t hroll h => ?_, fun s => ?_⟩
  · obtain rfl := ticked_of_exec_camtick h
    have hyaw := tickYaw_eq (s.ticked mask).roll s.yaw
    refine ⟨ticked_altitude mask s, fun hge => ?_, fun hle => ?_, fun hlo hhi => ?_⟩
    · rw [State.ticked_yaw, hyaw, turn_of_ge hge]
      rfl
    · rw [State.ticked_yaw, hyaw, turn_of_le hle]
      exact (BitVec.sub_eq_add_neg s.yaw 3#8).symm
    · rw [State.ticked_yaw, hyaw, turn_of_small hlo hhi]
      exact BitVec.add_zero _
  · obtain rfl := ticked_of_exec_camtick h
    have hroll' : (s.ticked 0#4).roll = 0#8 := by
      rw [State.ticked_roll, tickRoll_eq, hroll]
      rfl
    refine ⟨?_, hroll', ?_⟩
    · rw [State.ticked_pitch, tickPitch_eq]
      exact BitVec.add_zero _
    · rw [State.ticked_yaw, hroll', tickYaw_eq]
      exact BitVec.add_zero _
  · exact runCompletes_mono (runCompletes_up 256 s) fun t ht => ht.trans (BitVec.sub_zero _)

/-- Settles O53: both ways lead to the rotation of the same angles, and to the position moved by its row 2. -/
theorem tickByPrimitiveCommands : Obligations.TickByPrimitiveCommands := by
  unfold Obligations.TickByPrimitiveCommands
  intro mask s t s' h hcfg hpos hpitch hroll hyaw hlo hhi
  obtain rfl := ticked_of_exec_camtick h
  refine runCompletes_mono (runCompletes_tickByPrimitives (hcfg ▸ hlo) (hcfg ▸ hhi)) fun u ⟨hrot, hinv, hvw⟩ => ?_
  have hrot' : u.readM 3 = (s.ticked mask).camRot := by
    rw [hrot, hcfg, hpitch, hroll, hyaw, State.ticked_camRot]
  rw [hvw, hinv, hrot', hcfg, hpos, State.ticked_camInv, State.ticked_camPos]
  exact ⟨rfl, rfl, rfl⟩

/-- Settles O49: the rotation is a narrow matrix, so the write keeps it. -/
theorem cameraRotation : Obligations.CameraRotation := by
  unfold Obligations.CameraRotation
  exact fun s => ⟨decode_of_encode_eq rfl rfl, _, rfl, map_wrapN_mmul s.cfg _ _, camInv_writeCamRot s _,
    sameOutside_writeCamRot s _⟩

/-- Settles O51: each command is one write of a camera register. -/
theorem cameraCopies : Obligations.CameraCopies := by
  unfold Obligations.CameraCopies
  exact ⟨fun rd s => ⟨decode_of_encode_eq rfl rfl, completes_writeM rfl fun _ => id⟩,
    fun rd s => ⟨decode_of_encode_eq rfl rfl, completes_writeM rfl fun _ => id⟩,
    fun rd s => ⟨decode_of_encode_eq rfl rfl, completes_writeVW rfl fun _ => id⟩⟩

end Sys2Proof.Proofs

/-! PROOFS. The family 47_render.md. RCORN writes four narrow vectors and RSHADE records one sample, each said once.
A byte of FB is its eight pixels, so what REND draws does not depend on the old frame. The host loop of R269 follows
the two loops of REND: its commands keep the registers that it reads (`LoopReady`, `ColumnReady`) and draw the same
samples, so FB goes through the same memories. -/

namespace Sys2Proof.Machine

open Sys2Proof.Safety Sys2Proof.Claims

/-! ### The corner rays (R260, R267) -/

/-- A vector of narrow values is written as it is. -/
theorem V3.map_wrapN_of_fits {c : Cfg} {v : V3} (h : ∀ l, Fits c.nw (v.get l)) : v.map (wrapN c) = v :=
  V3.ext_get fun l => by rw [V3.get_map, wrapN_of_fits c (h l)]

theorem map_wrapN_mvmul (c : Cfg) (v : V3) (m : Mat) : (mvmul c v m).map (wrapN c) = mvmul c v m :=
  V3.map_wrapN_of_fits (fits_mvmul c v m)

theorem map_wrapN_lerp (c : Cfg) (a b : V3) (k sh : Nat) : (lerp c a b k sh).map (wrapN c) = lerp c a b k sh :=
  V3.map_wrapN_of_fits (fits_lerp c a b k sh)

/-- RCORN leaves the corner rays of the frame sequencer in VN[4] to VN[7], and the other registers as they were. -/
theorem readVN_of_exec_rcorn {ra : RegNo} {s t : State} (h : exec (.rcorn ra) s = .next t) (q : RegNo) :
    t.readVN q = if q = 7 then (corners s.cfg (s.readM ra)).br else if q = 6 then (corners s.cfg (s.readM ra)).bl
      else if q = 5 then (corners s.cfg (s.readM ra)).tr else if q = 4 then (corners s.cfg (s.readM ra)).tl
      else s.readVN q := by
  obtain rfl := Host.Outcome.next.inj h
  simp only [State.readVN_writeVN, State.writeVN_cfg, corners, map_wrapN_mvmul]
  rfl

/-! ### One sample (R261, R262) -/

theorem shade_ground {c : Cfg} {d : V3} (h : classify c d.y = .ground) (p : V3) :
    shade c p d = ⟨gtexAt c (gaddr c (groundHit c p d).1), .ground, some (groundHit c p d).2⟩ := by
  simp [shade, h]

theorem shade_cloud {c : Cfg} {d : V3} (h : classify c d.y = .cloud) (p : V3) :
    shade c p d = ⟨ctexAt c (caddr c (cloudHit c p d).1), .cloud, some (cloudHit c p d).2⟩ := by
  simp [shade, h]

section Record

variable (rd : RegNo) (s : State)

/-- The state that RSHADE answers for a sample. -/
def State.recordSample (r : Sample) : State := ((s.writeB rd r.level).setCls r.cls).setDistIf r.dist

theorem exec_rshade (ra : RegNo) :
    exec (.rshade rd ra) s = .next (s.recordSample rd (shade s.cfg s.camPos (s.readVN ra))) := rfl

theorem State.readB_recordSample (r : Sample) (q : RegNo) :
    (s.recordSample rd r).readB q = if q = rd then r.level else s.readB q := by
  simp [State.recordSample, State.readB_writeB]

/-- The level goes to B[rd]; CLS and DIST are the other parts that may change. -/
theorem wroteB_recordSample (r : Sample) :
    WroteB rd [.cls, .dist] (fun v => v = r.level) s (s.recordSample rd r) := by
  obtain ⟨-, -, hframe⟩ := wroteB_writeB s rd r.level
  refine ⟨?_, fun q hq => ?_, ?_⟩
  · rw [State.readB_recordSample, if_pos rfl]
  · rw [State.readB_recordSample, if_neg hq]
  · exact SameOutside.append (SameOutside.append hframe (sameOutside_setCls _ _)) (sameOutside_setDistIf _ _)

/-- Where no plane is hit, DIST keeps its value (R262). -/
theorem wroteB_recordSample_of_miss (level : Byte) (k : RayClass) :
    WroteB rd [.cls] (fun v => v = level) s (s.recordSample rd ⟨level, k, none⟩) := by
  obtain ⟨hlevel, hother, -⟩ := wroteB_recordSample rd s ⟨level, k, none⟩
  obtain ⟨-, -, hframe⟩ := wroteB_writeB s rd level
  exact ⟨hlevel, hother, SameOutside.append hframe (sameOutside_setCls _ _)⟩

end Record

/-! ### The bytes of a frame (R263, R264, R265) -/

/-- What every step of a loop leaves, the loop leaves. -/
theorem obs_foldl_of_keeps {κ α : Type} {obs : Memory → α} {f : Memory → κ → Memory}
    (h : ∀ fb k, obs (f fb k) = obs fb) (l : List κ) (fb : Memory) : obs (l.foldl f fb) = obs fb :=
  List.foldlRecOn (motive := fun m => obs m = obs fb) l f rfl fun fb hfb k _ => (h fb k).trans hfb

section Outside

variable (c : Cfg) (pos : V3) (k : CornerRays) (fb : Memory) {a : Nat} (ha : c.fbSize ≤ a)

include ha

theorem read_setBlock_outside (x y : Nat) (m : Byte) : (setBlock c fb x y m).read a = fb.read a :=
  read_setBlock_of_ne c fb x y m fun _ _ => ne_of_gt ((pixIndex_lt c _ _).trans_le ha)

/-- Both strategies leave every byte outside FB. -/
theorem read_renderFull_outside : (renderFull c pos k fb).read a = fb.read a :=
  obs_foldl_of_keeps (obs := fun fb => fb.read a) (fun fb _ => obs_foldl_of_keeps (obs := fun fb => fb.read a)
    (fun fb _ => read_setpix_outside c fb _ _ _ ha) _ fb) _ fb

theorem read_renderCoarse_outside : (renderCoarse c pos k fb).read a = fb.read a :=
  obs_foldl_of_keeps (obs := fun fb => fb.read a) (fun fb _ => obs_foldl_of_keeps (obs := fun fb => fb.read a)
    (fun fb _ => read_setBlock_outside c fb ha _ _ _) _ fb) _ fb

end Outside

/-- A byte of FB is the eight pixels stacked in its page and column (R60). -/
theorem read_eq_of_pixelAt_eq {c : Cfg} {fb fb' : Memory}
    (h : ∀ x y, x < c.sw → y < c.sh → pixelAt c fb x y = pixelAt c fb' x y) {a : Nat} (ha : a < c.fbSize) :
    fb.read a = fb'.read a := by
  rw [fbSize_eq] at ha
  have hpage : a / c.sw < c.pages := Nat.div_lt_of_lt_mul (mul_comm c.pages c.sw ▸ ha)
  have hsh := sh_eq_pages c
  refine BitVec.eq_of_getLsbD_eq fun k hk => ?_
  have hpixel := h (a % c.sw) (8 * (a / c.sw) + k) (Nat.mod_lt _ (sw_pos c)) (by omega)
  have hrow : (8 * (a / c.sw) + k) / 8 = a / c.sw := by omega
  have hbit : (8 * (a / c.sw) + k) % 8 = k := by omega
  rwa [pixelAt, pixelAt, hrow, hbit, Nat.div_add_mod'] at hpixel

/-! ### The host loop of R269 -/

/-- What the loop reads besides FB: the configuration, the position, and the corner rays in VN[4] to VN[7]; and FB
is `fb`. -/
structure LoopReady (c : Cfg) (pos : V3) (k : CornerRays) (fb : Memory) (s : State) : Prop where
  cfg : s.cfg = c
  camPos : s.camPos = pos
  tl : s.readVN 4#4 = k.tl
  tr : s.readVN 5#4 = k.tr
  bl : s.readVN 6#4 = k.bl
  br : s.readVN 7#4 = k.br
  fb : s.fb = fb

/-- The same within the column `x`, whose two edge directions are in VN[8] and VN[9]. -/
structure ColumnReady (c : Cfg) (pos : V3) (k : CornerRays) (x : Nat) (fb : Memory) (s : State) : Prop
    extends LoopReady c pos k fb s where
  top : s.readVN 8#4 = lerp c k.tl k.tr x c.lw
  bottom : s.readVN 9#4 = lerp c k.bl k.br x c.lw

/-- A list of commands for each element of a list does with FB what the fold does. -/
theorem runCompletes_flatMap {κ : Type} {ready : Memory → State → Prop} {body : κ → List Instr}
    {f : Memory → κ → Memory} {l : List κ}
    (h : ∀ k ∈ l, ∀ fb s, ready fb s → RunCompletes (body k) s (ready (f fb k))) {fb : Memory} {s : State}
    (hs : ready fb s) : RunCompletes (l.flatMap body) s (ready (l.foldl f fb)) := by
  induction l generalizing fb s with
  | nil => exact runCompletes_nil hs
  | cons k l ih =>
    rw [List.flatMap_cons, List.foldl_cons]
    refine runCompletes_append (runCompletes_mono (h k List.mem_cons_self fb s hs) fun t ht => ?_)
    exact ih (fun j hj => h j (List.mem_cons_of_mem k hj)) ht

theorem strided_eq_map (step n : Nat) : strided step n = (List.range n).map (step * ·) := by
  induction n with
  | zero => rfl
  | succ n ih => rw [strided, ih, List.range_succ, List.map_append, List.map_singleton]

/-! The operands of the loop fit their fields (R5, R99). -/

theorem toNat_ofNat_column {c : Cfg} {x : Nat} (hx : x < c.sw) : (BitVec.ofNat 8 x).toNat = x :=
  Nat.mod_eq_of_lt (hx.trans_le (Nat.pow_le_pow_right two_pos c.ok.lw_le))

theorem toNat_ofNat_row {c : Cfg} {y : Nat} (hy : y < c.sh) : (BitVec.ofNat 8 y).toNat = y :=
  Nat.mod_eq_of_lt (hy.trans_le (Nat.pow_le_pow_right two_pos c.ok.lh_le))

theorem toNat_ofNat_lw (c : Cfg) : (BitVec.ofNat 4 c.lw).toNat = c.lw :=
  Nat.mod_eq_of_lt (lt_of_le_of_lt c.ok.lw_le (by decide))

theorem toNat_ofNat_lh (c : Cfg) : (BitVec.ofNat 4 c.lh).toNat = c.lh :=
  Nat.mod_eq_of_lt (lt_of_le_of_lt c.ok.lh_le (by decide))

/-- The parity constant of DQF is the parity of the pixel (R223, R265). -/
theorem ofNat_beq_one (n : Nat) : (BitVec.ofNat 1 n == 1#1) = (n % 2 == 1) := by
  rw [Bool.eq_iff_iff, beq_iff_eq, beq_iff_eq, ← BitVec.toNat_inj, BitVec.toNat_ofNat]
  rfl

/-- The three commands before the loop put the corner rays of the camera in place. -/
theorem runCompletes_prologue {s : State} (hrot : ∀ i j, Fits s.cfg.nw (s.camRot.get i j)) :
    RunCompletes [.mcam 0, .rcorn 0, .vcam 0] s
      (LoopReady s.cfg s.camPos (corners s.cfg s.camRot) s.fb) := by
  refine ⟨_, rfl, rfl, rfl, ?_, ?_, ?_, ?_, rfl⟩
  all_goals simp [State.readVN_writeVN, corners, map_wrapN_mvmul, State.readM_writeM, map_wrapN_of_fits hrot]

section Loop

variable {c : Cfg} {pos : V3} {k : CornerRays} {fb : Memory} {s : State} {x y : Nat}

/-- A column of the loop: the two edge directions, then the rows. -/
theorem runCompletes_loopColumn (hs : LoopReady c pos k fb s) (hx : x < c.sw) {rows : List Instr} {fb' : Memory}
    (h : ∀ t, ColumnReady c pos k x fb t → RunCompletes rows t (ColumnReady c pos k x fb')) :
    RunCompletes (loopColumn c x rows) s (LoopReady c pos k fb') := by
  obtain ⟨rfl, rfl, htl, htr, hbl, hbr, rfl⟩ := hs
  refine runCompletes_cons rfl (runCompletes_cons rfl (runCompletes_mono (h _ ?_) fun _ ht => ht.toLoopReady))
  refine ⟨⟨rfl, rfl, ?_, ?_, ?_, ?_, rfl⟩, ?_, ?_⟩
  all_goals simp [-BitVec.toNat_ofNat, State.readVN_writeVN, htl, htr, hbl, hbr, map_wrapN_lerp,
    toNat_ofNat_column hx, toNat_ofNat_lw]

/-- The direction of a sample goes to VN[10], which the loop does not read again. -/
theorem ColumnReady.writeVN_direction (hs : ColumnReady c pos k x fb s) (v : V3) :
    ColumnReady c pos k x fb (s.writeVN 10 v) := by
  obtain ⟨⟨hcfg, hpos, htl, htr, hbl, hbr, hfb⟩, htop, hbottom⟩ := hs
  refine ⟨⟨hcfg, hpos, ?_, ?_, ?_, ?_, hfb⟩, ?_, ?_⟩
  all_goals simpa [State.readVN_writeVN]

/-- RSHADE writes none of the parts that the loop keeps. -/
theorem ColumnReady.recordSample (hs : ColumnReady c pos k x fb s) (rd : RegNo) (r : Sample) :
    ColumnReady c pos k x fb (s.recordSample rd r) := by
  obtain ⟨⟨hcfg, hpos, htl, htr, hbl, hbr, hfb⟩, htop, hbottom⟩ := hs
  refine ⟨⟨?_, ?_, ?_, ?_, ?_, ?_, ?_⟩, ?_, ?_⟩
  all_goals simpa [State.recordSample]

/-- The sample of a row: its level is in B[0]. -/
theorem runCompletes_loopSample (hs : ColumnReady c pos k x fb s) (hy : y < c.sh) :
    RunCompletes (loopSample c y) s fun t =>
      ColumnReady c pos k x fb t ∧ t.readB 0#4 = (shade c pos (viewDir c k x y)).level := by
  refine runCompletes_cons rfl (runCompletes_cons (exec_rshade 0 _ 10)
    (runCompletes_nil ⟨(hs.writeVN_direction _).recordSample 0 _, ?_⟩))
  obtain ⟨⟨rfl, rfl, -, -, -, -, rfl⟩, htop, hbottom⟩ := hs
  refine (State.readB_recordSample 0 _ _ 0).trans ((if_pos rfl).trans ?_)
  rw [State.readVN_writeVN, if_pos rfl, map_wrapN_lerp, toNat_ofNat_row hy, toNat_ofNat_lh,
    show s.readVN 8 = _ from htop, show s.readVN 9 = _ from hbottom]
  rfl

/-- A row of the coarse loop draws the block of its sample (R264). -/
theorem runCompletes_coarseRow (hs : ColumnReady c pos k x fb s) (hx : x < c.sw) (hy : y < c.sh) :
    RunCompletes (loopSample c y ++ [.dqc 1 0, .fbblk 1 (BitVec.ofNat 8 x) (BitVec.ofNat 8 y)]) s
      (ColumnReady c pos k x (setBlock c fb x y (qmask c (shade c pos (viewDir c k x y)).level))) := by
  refine runCompletes_append (runCompletes_mono (runCompletes_loopSample hs hy) fun t ⟨ht, hlevel⟩ => ?_)
  obtain ⟨⟨rfl, rfl, htl, htr, hbl, hbr, rfl⟩, htop, hbottom⟩ := ht
  refine ⟨_, rfl, ⟨rfl, rfl, htl, htr, hbl, hbr, ?_⟩, htop, hbottom⟩
  simp [State.readB_writeB, hlevel, toNat_ofNat_column hx, toNat_ofNat_row hy]

/-- A row of the full-resolution loop draws the pixel of its sample (R265). -/
theorem runCompletes_fullRow (hs : ColumnReady c pos k x fb s) (hx : x < c.sw) (hy : y < c.sh) :
    RunCompletes (loopSample c y ++
        [.dqf 1 0 (BitVec.ofNat 1 (x + y)), .fbpix 1 (BitVec.ofNat 8 x) (BitVec.ofNat 8 y)]) s
      (ColumnReady c pos k x
        (setpix c fb x y (fbit c (shade c pos (viewDir c k x y)).level ((x + y) % 2 == 1)))) := by
  refine runCompletes_append (runCompletes_mono (runCompletes_loopSample hs hy) fun t ⟨ht, hlevel⟩ => ?_)
  obtain ⟨⟨rfl, rfl, htl, htr, hbl, hbr, rfl⟩, htop, hbottom⟩ := ht
  refine ⟨_, rfl, ⟨rfl, rfl, htl, htr, hbl, hbr, ?_⟩, htop, hbottom⟩
  simp [State.readB_writeB, hlevel, toNat_ofNat_column hx, toNat_ofNat_row hy, ofNat_beq_one, getElem_bitByte]

end Loop

/-- The coarse loop takes FB through the memories of REND's coarse strategy. -/
theorem runCompletes_coarseLoop {s : State} (hrot : ∀ i j, Fits s.cfg.nw (s.camRot.get i j)) :
    RunCompletes (coarseLoop s.cfg) s fun t =>
      t.fb = renderCoarse s.cfg s.camPos (corners s.cfg s.camRot) s.fb := by
  have hsw := two_dvd_sw s.cfg
  have hsh := two_dvd_sh s.cfg
  rw [renderCoarse, strided_eq_map, strided_eq_map]
  simp only [List.foldl_map]
  refine runCompletes_append (runCompletes_mono (runCompletes_prologue hrot) fun t ht =>
    runCompletes_mono (runCompletes_flatMap (fun i hi fb u hu => ?_) ht) fun _ hlast => hlast.fb)
  rw [List.mem_range] at hi
  refine runCompletes_loopColumn hu (by omega) fun v hv => runCompletes_flatMap (fun j hj fb w hw => ?_) hv
  rw [List.mem_range] at hj
  exact runCompletes_coarseRow hw (by omega) (by omega)

/-- The full-resolution loop takes FB through the memories of REND's full strategy. -/
theorem runCompletes_fullLoop {s : State} (hrot : ∀ i j, Fits s.cfg.nw (s.camRot.get i j)) :
    RunCompletes (fullLoop s.cfg) s fun t =>
      t.fb = renderFull s.cfg s.camPos (corners s.cfg s.camRot) s.fb := by
  rw [renderFull, strided_eq_map, strided_eq_map]
  simp only [List.foldl_map, one_mul]
  refine runCompletes_append (runCompletes_mono (runCompletes_prologue hrot) fun t ht =>
    runCompletes_mono (runCompletes_flatMap (fun x hx fb u hu => ?_) ht) fun _ hlast => hlast.fb)
  rw [List.mem_range] at hx
  refine runCompletes_loopColumn hu hx fun v hv => runCompletes_flatMap (fun y hy fb w hw => ?_) hv
  rw [List.mem_range] at hy
  exact runCompletes_fullRow hw hx hy

end Sys2Proof.Machine

/-! ### The obligations -/

namespace Sys2Proof.Proofs

open Sys2Proof.Machine Sys2Proof.Safety Sys2Proof.Claims

/-- Settles O54: the four rays are the corners of the frame sequencer, and the writes keep them. -/
theorem cornerRaysOfAMatrix : Obligations.CornerRaysOfAMatrix := by
  unfold Obligations.CornerRaysOfAMatrix
  intro ra s c m
  obtain ⟨t, ht⟩ : ∃ t, exec (.rcorn ra) s = .next t := ⟨_, rfl⟩
  have hvn := readVN_of_exec_rcorn ht
  have htl : t.readVN 4 = (corners c m).tl := hvn 4
  have htr : t.readVN 5 = (corners c m).tr := hvn 5
  have hbl : t.readVN 6 = (corners c m).bl := hvn 6
  have hbr : t.readVN 7 = (corners c m).br := hvn 7
  refine ⟨decode_of_encode_eq rfl rfl, t, ht, htl, htr, hbl, hbr, fun q h4 h5 h6 h7 => ?_,
    sameOutside_of_exec rfl ht, ?_⟩
  · rw [hvn, if_neg h7, if_neg h6, if_neg h5, if_neg h4]
  · rw [htl, htr, hbl, hbr]

/-- Settles O55: in each range of the y lane the sample is the one of its class, and RSHADE records it. -/
theorem shadeOneSample : Obligations.ShadeOneSample := by
  unfold Obligations.ShadeOneSample
  intro rd ra s c p d
  refine ⟨decode_of_encode_eq rfl rfl, s.recordSample rd (shade c p d), exec_rshade rd s ra,
    (State.readB_recordSample rd s _ rd).trans (if_pos rfl), fun h => ?_, fun hlo hhi => ?_, fun h => ?_,
    fun hlo hhi => ?_⟩
  · rw [shade_ground (classify_of_lt h)]
    exact ⟨rfl, wrapW_of_fits c (fits_qdiv c _ _), wroteB_recordSample rd s _⟩
  · rw [shade_dead (classify_of_dead_band hlo hhi)]
    exact ⟨rfl, wroteB_recordSample_of_miss rd s _ _⟩
  · rw [shade_cloud (classify_of_gt h)]
    exact ⟨rfl, wrapW_of_fits c (fits_qdiv c _ _), wroteB_recordSample rd s _⟩
  · rw [shade_sky (classify_of_sky_band hlo hhi)]
    exact ⟨rfl, wroteB_recordSample_of_miss rd s _ _⟩

/-- Settles O56: the steps of a strategy draw the pixels, and each stays inside FB. -/
theorem framePixels : Obligations.FramePixels := by
  unfold Obligations.FramePixels
  intro s
  refine ⟨decode_of_encode_eq rfl rfl, completes_fb _ rfl
    ⟨post_of_completes (completes_rend_framePixel s) rfl, fun a ha => ?_⟩⟩
  change Memory.read (if s.fullRes then _ else _) a = s.fb.read a
  split_ifs
  · exact read_renderFull_outside _ _ _ _ ha
  · exact read_renderCoarse_outside _ _ _ _ ha

/-- Settles O57: the pixels of both frames have one formula, which reads no other part of the state. -/
theorem frameDependsOnTheCameraOnly : Obligations.FrameDependsOnTheCameraOnly := by
  unfold Obligations.FrameDependsOnTheCameraOnly
  intro s s' hcfg hrot hpos hfull
  obtain ⟨t, ht, hpixel⟩ := completes_rend_framePixel s
  obtain ⟨t', ht', hpixel'⟩ := completes_rend_framePixel s'
  rw [hcfg, hrot, hpos, hfull] at hpixel'
  exact ⟨t, ht, t', ht', fun a ha => read_eq_of_pixelAt_eq
    (fun x y hx hy => (hpixel' x y hx hy).trans (hpixel x y hx hy).symm) ha⟩

/-- Settles O60: the loop of each strategy takes FB through the memories of REND's own loop. -/
theorem renderLoopEqualsRend : Obligations.RenderLoopEqualsRend := by
  unfold Obligations.RenderLoopEqualsRend
  intro s hs
  refine ⟨_, rfl, fun hcoarse => ?_, fun hfull => ?_⟩
  · refine runCompletes_mono (runCompletes_coarseLoop hs.lanes.camRot) fun t ht => ht.trans ?_
    exact (if_neg (Bool.eq_false_iff.1 hcoarse)).symm
  · refine runCompletes_mono (runCompletes_fullLoop hs.lanes.camRot) fun t ht => ht.trans ?_
    exact (if_pos hfull).symm

end Sys2Proof.Proofs

/-! PROOFS. The family 70_reset_and_hazards.md. The rotation and what it is compared with are five parts of the
state (`rotationParts`); an update that touches none of them keeps the agreement of R302, and only CAMROT, CAMTICK, a
reset and a host write of an angle touch one. -/

namespace Sys2Proof.Safety

open Sys2Proof.Machine Sys2Proof.Claims

/-! ### The commands that build the rotation (R240, R242) -/

theorem rotationFollowsAngles_of_exec_camrot {s t : State} (h : exec .camrot s = .next t) :
    RotationFollowsAngles t := by
  obtain rfl : s.writeCamRot (camrot s.cfg s.pitch s.roll s.yaw) = t := Host.Outcome.next.inj h
  exact map_wrapN_mmul s.cfg _ _

theorem rotationFollowsAngles_of_exec_camtick {mask : BitVec 4} {s t : State}
    (h : exec (.camtick mask) s = .next t) : RotationFollowsAngles t :=
  ticked_of_exec_camtick h ▸ State.ticked_camRot mask s

/-! ### What keeps the rotation that of the angles (R302) -/

/-- The parts of the state that `RotationFollowsAngles` reads. -/
def rotationParts : List Part := [.camRot, .pitch, .roll, .yaw, .cfg]

/-- An update that writes none of those parts keeps the agreement. -/
theorem RotationFollowsAngles.of_sameOutside {ps : List Part} {s t : State} (hs : RotationFollowsAngles s)
    (h : SameOutside ps s t) (hps : ∀ p ∈ rotationParts, p ∉ ps) : RotationFollowsAngles t := by
  have hsame (p : Part) (hp : p ∈ rotationParts) : SamePart s t p := h p (hps p hp)
  have hrot : t.camRot = s.camRot := hsame .camRot (by decide)
  have hpitch : t.pitch = s.pitch := hsame .pitch (by decide)
  have hroll : t.roll = s.roll := hsame .roll (by decide)
  have hyaw : t.yaw = s.yaw := hsame .yaw (by decide)
  have hcfg : t.cfg = s.cfg := hsame .cfg (by decide)
  rw [RotationFollowsAngles, hrot, hpitch, hroll, hyaw, hcfg]
  exact hs

theorem cfg_notMem_writtenParts (i : Instr) : .cfg ∉ writtenParts i := by
  cases i <;> simp [writtenParts]

/-- Only the two camera commands write a part that the agreement reads (R35). -/
theorem camera_of_mem_writtenParts {i : Instr} {p : Part} (hp : p ∈ rotationParts) (hi : p ∈ writtenParts i) :
    i = .camrot ∨ ∃ mask, i = .camtick mask := by
  have hparts : p = .camRot ∨ p = .pitch ∨ p = .roll ∨ p = .yaw ∨ p = .cfg := by
    simpa [rotationParts] using hp
  obtain rfl | rfl | rfl | rfl | rfl := hparts
  · exact camRot_mem_writtenParts (.inl hi)
  · exact .inr (angle_mem_writtenParts (.inl hi))
  · exact .inr (angle_mem_writtenParts (.inr (.inl hi)))
  · exact .inr (angle_mem_writtenParts (.inr (.inr hi)))
  · exact absurd hi (cfg_notMem_writtenParts i)

/-- A command of the table builds the rotation anew or does not touch it. -/
theorem RotationFollowsAngles.of_exec {i : Instr} {s t : State} (hs : RotationFollowsAngles s)
    (hi : i.wellFormed = true) (h : exec i s = .next t) : RotationFollowsAngles t := by
  by_cases hcamera : i = .camrot ∨ ∃ mask, i = .camtick mask
  · obtain rfl | ⟨mask, rfl⟩ := hcamera
    · exact rotationFollowsAngles_of_exec_camrot h
    · exact rotationFollowsAngles_of_exec_camtick h
  · exact hs.of_sameOutside (sameOutside_of_exec hi h) fun _ hp hw => hcamera (camera_of_mem_writtenParts hp hw)

/-- An issued word runs a command of the table, or sets ILL only (R104). -/
theorem RotationFollowsAngles.of_issueWord {w : Word} {s t : State} (hs : RotationFollowsAngles s)
    (h : issueWord w s = .next t) : RotationFollowsAngles t := by
  unfold issueWord at h
  split at h
  next i hw => exact hs.of_exec (wellFormed_of_decode hw) h
  next => exact Host.Outcome.next.inj h ▸ hs.of_sameOutside (onlyIllSet_takeIllegal s).2 (by decide)

/-- A register of the host port that is no angle is in no part that the agreement reads (R35). -/
theorem portPart_notMem_rotationParts {f i : Nat} (hf : f ≤ 6) (hi : f = 6 → ¬ (i = 3 ∨ i = 4 ∨ i = 5)) :
    portPart f i ∉ rotationParts := by
  obtain hf | rfl := Nat.lt_or_eq_of_le hf
  · interval_cases f <;> simp [portPart, rotationParts]
  · have hangle := hi rfl
    simp only [portPart]
    split <;> simp_all [rotationParts]

/-- A host write of a register that is no angle; a file that does not exist is not written (R36, R63). -/
theorem RotationFollowsAngles.hostWriteReg {s : State} (hs : RotationFollowsAngles s) {f i l v : Nat}
    (h : movesAngles (.writeReg f i l v) = false) : RotationFollowsAngles (s.hostWriteReg f i l v) := by
  have hangle : f = 6 → ¬ (i = 3 ∨ i = 4 ∨ i = 5) := by
    simpa [movesAngles, and_assoc] using h
  cases hport : portLane s f i l with
  | none => rwa [hostWriteReg_of_missing hport]
  | some p =>
    have hpart := portPart_notMem_rotationParts (file_le_of_portLane hport) hangle
    refine hs.of_sameOutside (sameOutside_hostWriteReg s f i l v) fun p hp hw => hpart ?_
    exact List.mem_singleton.1 hw ▸ hp

/-- A host write of memory is of FB or of nothing (R64). -/
theorem RotationFollowsAngles.hostWriteMem {s : State} (hs : RotationFollowsAngles s) (sp : Space) (i : Nat)
    (v : Byte) : RotationFollowsAngles (s.hostWriteMem sp i v) := by
  by_cases hin : sp = .fb ∧ i < s.cfg.fbSize
  · rw [hostWriteMem_of_inside hin]
    exact hs.of_sameOutside (sameOutside_writeFB s i v) (by decide)
  · rwa [hostWriteMem_of_outside hin]

/-- Every host action but a reset and a write of an angle keeps the agreement. -/
theorem RotationFollowsAngles.of_perform {a : HostAction} {s t : State} (hs : RotationFollowsAngles s)
    (ha : movesAngles a = false) (h : perform a s = .next t) : RotationFollowsAngles t := by
  cases a with
  | reset => cases ha
  | readReg | readMem =>
    exact Host.Outcome.next.inj h ▸ hs.of_sameOutside (sameOutside_reply s _) (by decide)
  | writeReg => exact Host.Outcome.next.inj h ▸ hs.hostWriteReg ha
  | writeMem space i byte => exact Host.Outcome.next.inj h ▸ hs.hostWriteMem space i byte
  | issue => exact hs.of_issueWord h

/-- So does a step that performs such an action, or none. -/
theorem RotationFollowsAngles.of_step {s t : State} (hs : RotationFollowsAngles s)
    (ha : ∀ a rest, s.host = a :: rest → movesAngles a = false) (h : step s = .next t) :
    RotationFollowsAngles t := by
  cases hhost : s.host with
  | nil =>
    rw [step_of_host_nil hhost] at h
    exact Host.Outcome.next.inj h ▸ hs
  | cons a rest =>
    rw [step_of_host_cons hhost] at h
    have hs' : RotationFollowsAngles { s with host := rest } :=
      hs.of_sameOutside (sameOutside_host s rest) (by decide)
    exact hs'.of_perform (ha a rest hhost) h

/-! ### The reset state (R40, R302) -/

/-- The product with the identity is the matrix itself, when its elements are narrow values (R180, R189). -/
theorem mmul_identity {c : Cfg} {a : Mat} (ha : ∀ i j, Fits c.nw (a.get i j)) : mmul c a (identity c) = a :=
  Mat.ext_get fun i j => by
    rw [mmul, Mat.get_ofFn, get_identity, get_identity, get_identity]
    fin_cases j <;> simp [asr_mul_two_pow, wrapN_of_fits c (ha i _)]

section AngleZero

variable {c : Cfg} (hsin : sinOf c 0#8 = 0) (hcos : cosOf c 0#8 = c.oneN)

include hsin hcos

theorem rotX_zero : rotX c 0#8 = identity c := by simp [rotX, identity, hsin, hcos]

theorem rotY_zero : rotY c 0#8 = identity c := by simp [rotY, identity, hsin, hcos]

theorem rotZ_zero : rotZ c 0#8 = identity c := by simp [rotZ, identity, hsin, hcos]

/-- The rotation of the angles 0, whose negations are 0 too (R241). -/
theorem camrot_zero : camrot c 0#8 0#8 0#8 = identity c := by
  rw [camrot, BitVec.neg_zero, rotX_zero hsin hcos, rotY_zero hsin hcos, rotZ_zero hsin hcos,
    mmul_identity (fits_identity c), mmul_identity (fits_identity c)]

end AngleZero

/-- The sine and the cosine of the angle 0 are the entries 0 and 64 of SINTAB (R148). -/
theorem rotationFollowsAngles_resetWith {c : Cfg} (hsin : c.sintab.getD 0 0 = 0)
    (hcos : c.sintab.getD 64 0 = c.oneN) : RotationFollowsAngles (State.resetWith c) :=
  (camrot_zero (c := c) hsin hcos).symm

end Sys2Proof.Safety

/-! ### The obligations -/

namespace Sys2Proof.Proofs

open Sys2Proof.Machine Sys2Proof.Safety

/-- Settles O13: the camera commands build the rotation of the angles, and no other allowed step touches either. -/
theorem rotationFollowsTheAngles : Obligations.RotationFollowsTheAngles := by
  unfold Obligations.RotationFollowsTheAngles
  exact ⟨fun _ _ h => rotationFollowsAngles_of_exec_camrot h,
    fun _ _ _ h => rotationFollowsAngles_of_exec_camtick h,
    fun _ _ hs ha h => hs.of_step ha h,
    fun _ hsin hcos => rotationFollowsAngles_resetWith hsin hcos⟩

end Sys2Proof.Proofs
